-- ==== Sys2Proof/Word.lean ====
section
/-! DEFINITION. Bytes, words, the register names, the address-calculation tags and the register/memory operand: the
types an instruction's operands are made of (10_state.md R22, R23; 30_encoding.md R81; 40_decoder.md R124). -/

namespace Sys2Proof

/-- One byte (00_scope.md R10). -/
abbrev Byte := BitVec 8

/-- One 16-bit word. A manual's `Int16` is held as these 16 bits and read with `toInt` (log 25). -/
abbrev Word := BitVec 16

/-- The 20 register names (10_state.md R22, R23). -/
inductive RegName where
  | AL | CL | DL | BL | AH | CH | DH | BH
  | AX | CX | DX | BX | SP | BP | SI | DI
  | ES | CS | SS | DS
  deriving DecidableEq, Repr

/-- The four segment registers, in the order of the 2-bit field sr (30_encoding.md R79). -/
inductive SegReg where
  | ES | CS | SS | DS
  deriving DecidableEq, Repr

/-- The segment register's name among the 20 (10_state.md R23). -/
def SegReg.name : SegReg → RegName
  | .ES => .ES | .CS => .CS | .SS => .SS | .DS => .DS

/-- True for the names of 8 bits (10_state.md R22). -/
def RegName.isByte : RegName → Bool
  | .AL | .CL | .DL | .BL | .AH | .CH | .DH | .BH => true
  | .AX | .CX | .DX | .BX | .SP | .BP | .SI | .DI | .ES | .CS | .SS | .DS => false

/-- True for the four segment names (10_state.md R22). -/
def RegName.isSegment : RegName → Bool
  | .ES | .CS | .SS | .DS => true
  | .AL | .CL | .DL | .BL | .AH | .CH | .DH | .BH | .AX | .CX | .DX | .BX | .SP | .BP | .SI | .DI => false

/-- The 24 effective-address tags (30_encoding.md R81). -/
inductive EATag where
  | BX_SI | BX_DI | BP_SI | BP_DI | SI | DI | DIRECT | BX
  | BX_SI_D8 | BX_DI_D8 | BP_SI_D8 | BP_DI_D8 | SI_D8 | DI_D8 | BP_D8 | BX_D8
  | BX_SI_D16 | BX_DI_D16 | BP_SI_D16 | BP_DI_D16 | SI_D16 | DI_D16 | BP_D16 | BX_D16
  deriving DecidableEq, Repr

/-- How many displacement bytes a tag carries: 0, 1 or 2 (30_encoding.md R81). -/
def EATag.dispBytes : EATag → Nat
  | .BX_SI | .BX_DI | .BP_SI | .BP_DI | .SI | .DI | .BX => 0
  | .BX_SI_D8 | .BX_DI_D8 | .BP_SI_D8 | .BP_DI_D8 | .SI_D8 | .DI_D8 | .BP_D8 | .BX_D8 => 1
  | .DIRECT | .BX_SI_D16 | .BX_DI_D16 | .BP_SI_D16 | .BP_DI_D16 | .SI_D16 | .DI_D16 | .BP_D16 | .BX_D16 => 2

/-- Address Calculation: a tag and a signed 16-bit displacement (40_decoder.md R124). -/
structure AddressCalc where
  tag : EATag
  disp : Word
  deriving DecidableEq, Repr

/-- The register/memory operand of a mod/reg/rm byte: a register when mod = 0b11, memory otherwise
(30_encoding.md R80, R81). -/
inductive RMOperand where
  | reg (r : RegName)
  | mem (ea : AddressCalc)
  deriving DecidableEq, Repr

/-- The displacement bytes that a register/memory operand adds to an instruction's length (30_encoding.md R94). -/
def RMOperand.dispBytes : RMOperand → Nat
  | .reg _ => 0
  | .mem ea => ea.tag.dispBytes

end Sys2Proof
end

