-- ==== Sys2Proof/Config.lean ====
section
/-! DEFINITION. The implementation parameters that the spec leaves to a model as named parameters (00_scope.md R8;
92_eei_decisions.md D13, D14, D19). No value of this block is a free value: every value an executed instruction
computes is stated by a rule. -/

namespace Sys2Proof

/-- The flag basis of an 8-bit ADD or SUB (42_execution_unit.md R206). -/
inductive ByteResultBasis where
  | Truncated
  | Wide16
  deriving DecidableEq, Repr

/-- The three parameters of 00_scope.md R8 that a model may vary. They ride in State, where no step writes them,
because a step takes a state and nothing else (10_state.md R36; log 1). -/
structure Params where
  /-- `IP_ADVANCES`: whether ip advances by the instruction's size (10_state.md R33). -/
  ipAdvances : Bool
  /-- `MEM_SIZE`: the number of bytes of the data memory (10_state.md R34). -/
  memSize : Nat
  /-- `BYTE_RESULT_BASIS` (42_execution_unit.md R206). -/
  byteResultBasis : ByteResultBasis
  deriving DecidableEq, Repr

/-- The spec's defaults (00_scope.md R8). DESIGN CHOICE of the spec, D13, D14, D19 (log 2). -/
def Params.default : Params :=
  { ipAdvances := true, memSize := 65536, byteResultBasis := .Truncated }

end Sys2Proof
end

