-- ==== Sys2Proof/Syntax.lean ====
section
/-! DEFINITION. The instructions: one constructor per row of spec/opcode_table.json, in the table's order (30_encoding.md
R91), the nine refused forms last.

A constructor's fields are the row's fields (30_encoding.md R72), the register fields already resolved to names:
`d` the direction bit, `s` the sign-extension bit, `v` the shift-count bit, `w` the width bit (true is 16 bits), `reg`
the register field, `sr` the segment-register field, `rm` the register/memory operand with its displacement, `imm` the
immediate as held (sign-extended when it is encoded in one byte, 30_encoding.md R83), `disp` the 8-bit displacement of
a jump, `port` the port byte, `addr` the direct address. No bit of an encoding that decodes is dropped. -/

namespace Sys2Proof

/-- An instruction, or a refused form of the opcode table (30_encoding.md R84, R91). -/
inductive Instr where
  /-- MOV_RM_REG: `100010dw mod reg r/m [disp]` (R230). -/
  | movRmReg (d w : Bool) (reg : RegName) (rm : RMOperand)
  /-- MOV_IMM_RM: `1100011w mod 000 r/m [disp] data [data if w=1]` (R231). -/
  | movImmRm (w : Bool) (rm : RMOperand) (imm : Word)
  /-- MOV_IMM_REG: `1011 w reg data [data if w=1]` (R232). -/
  | movImmReg (w : Bool) (reg : RegName) (imm : Word)
  /-- MOV_MEM_ACC: `1010000w addr-lo addr-hi` (R233). -/
  | movMemAcc (w : Bool) (addr : Word)
  /-- MOV_ACC_MEM: `1010001w addr-lo addr-hi` (R234). -/
  | movAccMem (w : Bool) (addr : Word)
  /-- MOV_RM_SR: `10001110 mod 0 sr r/m [disp]` (R235). -/
  | movRmSr (sr : SegReg) (rm : RMOperand)
  /-- MOV_SR_RM: `10001100 mod 0 sr r/m [disp]` (R236). -/
  | movSrRm (sr : SegReg) (rm : RMOperand)
  /-- PUSH_RM: `11111111 mod 110 r/m [disp]` (R237). -/
  | pushRm (rm : RMOperand)
  /-- PUSH_REG: `01010 reg` (R238). -/
  | pushReg (reg : RegName)
  /-- PUSH_SR: `000 sr 110` (R239). -/
  | pushSr (sr : SegReg)
  /-- POP_RM: `10001111 mod 000 r/m [disp]` (R240). -/
  | popRm (rm : RMOperand)
  /-- POP_REG: `01011 reg` (R241). -/
  | popReg (reg : RegName)
  /-- POP_SR: `000 sr 111` (R242). -/
  | popSr (sr : SegReg)
  /-- XCHG_RM_REG: `1000011w mod reg r/m [disp]` (R243). -/
  | xchgRmReg (w : Bool) (reg : RegName) (rm : RMOperand)
  /-- XCHG_REG_ACC: `10010 reg` (R244). -/
  | xchgRegAcc (reg : RegName)
  /-- IN_FIXED: `1110010w port8` (R245). -/
  | inFixed (w : Bool) (port : Byte)
  /-- IN_VAR: `1110110w` (R246). -/
  | inVar (w : Bool)
  /-- OUT_FIXED: `1110011w port8` (R247). -/
  | outFixed (w : Bool) (port : Byte)
  /-- OUT_VAR: `1110111w` (R248). -/
  | outVar (w : Bool)
  /-- XLAT: `11010111` (R249). -/
  | xlat
  /-- LEA: `10001101 mod reg r/m [disp]` (R250). -/
  | lea (reg : RegName) (rm : RMOperand)
  /-- LDS: `11000101 mod reg r/m [disp]` (R251). -/
  | lds (reg : RegName) (rm : RMOperand)
  /-- LES: `11000100 mod reg r/m [disp]` (R252). -/
  | les (reg : RegName) (rm : RMOperand)
  /-- LAHF: `10011111` (R253). -/
  | lahf
  /-- SAHF: `10011110` (R254). -/
  | sahf
  /-- PUSHF: `10011100` (R255). -/
  | pushf
  /-- POPF: `10011101` (R256). -/
  | popf
  /-- ADD_RM_REG: `000000dw mod reg r/m [disp]` (R300). -/
  | addRmReg (d w : Bool) (reg : RegName) (rm : RMOperand)
  /-- ADD_IMM_RM: `100000sw mod 000 r/m [disp] data [data if s:w=01]` (R301). -/
  | addImmRm (s w : Bool) (rm : RMOperand) (imm : Word)
  /-- ADD_IMM_ACC: `0000010w data [data if w=1]` (R302). -/
  | addImmAcc (w : Bool) (imm : Word)
  /-- ADC_RM_REG: `000100dw mod reg r/m [disp]` (R303). -/
  | adcRmReg (d w : Bool) (reg : RegName) (rm : RMOperand)
  /-- ADC_IMM_RM: `100000sw mod 010 r/m [disp] data [data if s:w=01]` (R304). -/
  | adcImmRm (s w : Bool) (rm : RMOperand) (imm : Word)
  /-- ADC_IMM_ACC: `0001010w data [data if w=1]` (R305). -/
  | adcImmAcc (w : Bool) (imm : Word)
  /-- INC_RM: `1111111w mod 000 r/m [disp]` (R306). -/
  | incRm (w : Bool) (rm : RMOperand)
  /-- INC_REG: `01000 reg` (R307). -/
  | incReg (reg : RegName)
  /-- AAA: `00110111` (R308). -/
  | aaa
  /-- DAA: `00100111` (R309). -/
  | daa
  /-- SUB_RM_REG: `001010dw mod reg r/m [disp]` (R310). -/
  | subRmReg (d w : Bool) (reg : RegName) (rm : RMOperand)
  /-- SUB_IMM_RM: `100000sw mod 101 r/m [disp] data [data if s:w=01]` (R311). -/
  | subImmRm (s w : Bool) (rm : RMOperand) (imm : Word)
  /-- SUB_IMM_ACC: `0010110w data [data if w=1]` (R312). -/
  | subImmAcc (w : Bool) (imm : Word)
  /-- SBB_RM_REG: `000110dw mod reg r/m [disp]` (R313). -/
  | sbbRmReg (d w : Bool) (reg : RegName) (rm : RMOperand)
  /-- SBB_IMM_RM: `100000sw mod 011 r/m [disp] data [data if s:w=01]` (R314). -/
  | sbbImmRm (s w : Bool) (rm : RMOperand) (imm : Word)
  /-- SBB_IMM_ACC: `0001110w data [data if w=1]` (R315). -/
  | sbbImmAcc (w : Bool) (imm : Word)
  /-- DEC_RM: `1111111w mod 001 r/m [disp]` (R316). -/
  | decRm (w : Bool) (rm : RMOperand)
  /-- DEC_REG: `01001 reg` (R317). -/
  | decReg (reg : RegName)
  /-- NEG: `1111011w mod 011 r/m [disp]` (R318). -/
  | neg (w : Bool) (rm : RMOperand)
  /-- CMP_RM_REG: `001110dw mod reg r/m [disp]` (R319). -/
  | cmpRmReg (d w : Bool) (reg : RegName) (rm : RMOperand)
  /-- CMP_IMM_RM: `100000sw mod 111 r/m [disp] data [data if s:w=01]` (R320). -/
  | cmpImmRm (s w : Bool) (rm : RMOperand) (imm : Word)
  /-- CMP_IMM_ACC: `0011110w data [data if w=1]` (R321). -/
  | cmpImmAcc (w : Bool) (imm : Word)
  /-- AAS: `00111111` (R322). -/
  | aas
  /-- DAS: `00101111` (R323). -/
  | das
  /-- MUL: `1111011w mod 100 r/m [disp]` (R324). -/
  | mul (w : Bool) (rm : RMOperand)
  /-- IMUL: `1111011w mod 101 r/m [disp]` (R325). -/
  | imul (w : Bool) (rm : RMOperand)
  /-- AAM: `11010100 00001010` (R326). -/
  | aam
  /-- DIV: `1111011w mod 110 r/m [disp]` (R327). -/
  | div (w : Bool) (rm : RMOperand)
  /-- IDIV: `1111011w mod 111 r/m [disp]` (R328). -/
  | idiv (w : Bool) (rm : RMOperand)
  /-- AAD: `11010101 00001010` (R329). -/
  | aad
  /-- CBW: `10011000` (R330). -/
  | cbw
  /-- CWD: `10011001` (R331). -/
  | cwd
  /-- NOT: `1111011w mod 010 r/m [disp]` (R370). -/
  | not (w : Bool) (rm : RMOperand)
  /-- SHL: `110100vw mod 100 r/m [disp]` (R371). -/
  | shl (v w : Bool) (rm : RMOperand)
  /-- SHR: `110100vw mod 101 r/m [disp]` (R372). -/
  | shr (v w : Bool) (rm : RMOperand)
  /-- SAR: `110100vw mod 111 r/m [disp]` (R373). -/
  | sar (v w : Bool) (rm : RMOperand)
  /-- ROL: `110100vw mod 000 r/m [disp]` (R374). -/
  | rol (v w : Bool) (rm : RMOperand)
  /-- ROR: `110100vw mod 001 r/m [disp]` (R375). -/
  | ror (v w : Bool) (rm : RMOperand)
  /-- RCL: `110100vw mod 010 r/m [disp]` (R376). -/
  | rcl (v w : Bool) (rm : RMOperand)
  /-- RCR: `110100vw mod 011 r/m [disp]` (R377). -/
  | rcr (v w : Bool) (rm : RMOperand)
  /-- AND_RM_REG: `001000dw mod reg r/m [disp]` (R378). -/
  | andRmReg (d w : Bool) (reg : RegName) (rm : RMOperand)
  /-- AND_IMM_RM: `100000sw mod 100 r/m [disp] data [data if s:w=01]` (R379). -/
  | andImmRm (s w : Bool) (rm : RMOperand) (imm : Word)
  /-- AND_IMM_ACC: `0010010w data [data if w=1]` (R380). -/
  | andImmAcc (w : Bool) (imm : Word)
  /-- TEST_RM_REG: `1000010w mod reg r/m [disp]` (R381). -/
  | testRmReg (w : Bool) (reg : RegName) (rm : RMOperand)
  /-- TEST_IMM_RM: `1111011w mod 000 r/m [disp] data [data if w=1]` (R382). -/
  | testImmRm (w : Bool) (rm : RMOperand) (imm : Word)
  /-- TEST_IMM_ACC: `1010100w data [data if w=1]` (R383). -/
  | testImmAcc (w : Bool) (imm : Word)
  /-- OR_RM_REG: `000010dw mod reg r/m [disp]` (R384). -/
  | orRmReg (d w : Bool) (reg : RegName) (rm : RMOperand)
  /-- OR_IMM_RM: `100000sw mod 001 r/m [disp] data [data if s:w=01]` (R385). -/
  | orImmRm (s w : Bool) (rm : RMOperand) (imm : Word)
  /-- OR_IMM_ACC: `0000110w data [data if w=1]` (R386). -/
  | orImmAcc (w : Bool) (imm : Word)
  /-- XOR_RM_REG: `001100dw mod reg r/m [disp]` (R387). -/
  | xorRmReg (d w : Bool) (reg : RegName) (rm : RMOperand)
  /-- XOR_IMM_RM: `100000sw mod 110 r/m [disp] data [data if s:w=01]` (R388). -/
  | xorImmRm (s w : Bool) (rm : RMOperand) (imm : Word)
  /-- XOR_IMM_ACC: `0011010w data [data if w=1]` (R389). -/
  | xorImmAcc (w : Bool) (imm : Word)
  /-- REP: `11110011` (R410). -/
  | rep
  /-- REPNE: `11110010` (R411). -/
  | repne
  /-- MOVS: `1010010w` (R412). -/
  | movs (w : Bool)
  /-- CMPS: `1010011w` (R413). -/
  | cmps (w : Bool)
  /-- SCAS: `1010111w` (R414). -/
  | scas (w : Bool)
  /-- LODS: `1010110w` (R415). -/
  | lods (w : Bool)
  /-- STOS: `1010101w` (R416). -/
  | stos (w : Bool)
  /-- CALL_IND: `11111111 mod 010 r/m [disp]` (R431). -/
  | callInd (rm : RMOperand)
  /-- CALL_FAR_IND: `11111111 mod 011 r/m [disp]` (R432). -/
  | callFarInd (rm : RMOperand)
  /-- JMP_IND: `11111111 mod 100 r/m [disp]` (R433). -/
  | jmpInd (rm : RMOperand)
  /-- JMP_FAR_IND: `11111111 mod 101 r/m [disp]` (R434). -/
  | jmpFarInd (rm : RMOperand)
  /-- RET: `11000011` (R435). -/
  | ret
  /-- RET_IMM: `11000010 data-lo data-hi` (R436). -/
  | retImm (imm : Word)
  /-- RETF: `11001011` (R437). -/
  | retf
  /-- RETF_IMM: `11001010 data-lo data-hi` (R438). -/
  | retfImm (imm : Word)
  /-- JE: `01110100 disp8` (R439). -/
  | je (disp : Byte)
  /-- JL: `01111100 disp8` (R440). -/
  | jl (disp : Byte)
  /-- JLE: `01111110 disp8` (R441). -/
  | jle (disp : Byte)
  /-- JB: `01110010 disp8` (R442). -/
  | jb (disp : Byte)
  /-- JBE: `01110110 disp8` (R443). -/
  | jbe (disp : Byte)
  /-- JP: `01111010 disp8` (R444). -/
  | jp (disp : Byte)
  /-- JO: `01110000 disp8` (R445). -/
  | jo (disp : Byte)
  /-- JS: `01111000 disp8` (R446). -/
  | js (disp : Byte)
  /-- JNE: `01110101 disp8` (R447). -/
  | jne (disp : Byte)
  /-- JNL: `01111101 disp8` (R448). -/
  | jnl (disp : Byte)
  /-- JNLE: `01111111 disp8` (R449). -/
  | jnle (disp : Byte)
  /-- JNB: `01110011 disp8` (R450). -/
  | jnb (disp : Byte)
  /-- JNBE: `01110111 disp8` (R451). -/
  | jnbe (disp : Byte)
  /-- JNP: `01111011 disp8` (R452). -/
  | jnp (disp : Byte)
  /-- JNO: `01110001 disp8` (R453). -/
  | jno (disp : Byte)
  /-- JNS: `01111001 disp8` (R454). -/
  | jns (disp : Byte)
  /-- LOOP: `11100010 disp8` (R455). -/
  | loop (disp : Byte)
  /-- LOOPZ: `11100001 disp8` (R456). -/
  | loopz (disp : Byte)
  /-- LOOPNZ: `11100000 disp8` (R457). -/
  | loopnz (disp : Byte)
  /-- JCXZ: `11100011 disp8` (R458). -/
  | jcxz (disp : Byte)
  /-- INT: `11001101 type8` (R459). -/
  | int (imm : Byte)
  /-- INT3: `11001100` (R460). -/
  | int3
  /-- INTO: `11001110` (R461). -/
  | into
  /-- IRET: `11001111` (R462). -/
  | iret
  /-- CLC: `11111000` (R480). -/
  | clc
  /-- CMC: `11110101` (R481). -/
  | cmc
  /-- STC: `11111001` (R482). -/
  | stc
  /-- CLD: `11111100` (R483). -/
  | cld
  /-- STD: `11111101` (R484). -/
  | std
  /-- CLI: `11111010` (R485). -/
  | cli
  /-- STI: `11111011` (R486). -/
  | sti
  /-- HLT: `11110100` (R487). -/
  | hlt
  /-- WAIT: `10011011` (R488). -/
  | wait
  /-- LOCK: `11110000` (R489). -/
  | lock
  /-- CALL_NEAR: `11101000 disp-lo disp-hi` (R463). -/
  | callNear
  /-- CALL_FAR: `10011010 off-lo off-hi seg-lo seg-hi` (R464). -/
  | callFar
  /-- JMP_NEAR: `11101001 disp-lo disp-hi` (R465). -/
  | jmpNear
  /-- JMP_SHORT: `11101011 disp8` (R466). -/
  | jmpShort
  /-- JMP_FAR: `11101010 off-lo off-hi seg-lo seg-hi` (R467). -/
  | jmpFar
  /-- ESC: `11011xxx mod xxx r/m [disp]` (R490). -/
  | esc (x : BitVec 3)
  /-- SEGMENT: `001 sr 110` (R491). -/
  | segment (sr : SegReg)
  /-- AAM_BASE: `11010100 imm8 (imm8 != 0x0A)` (R326). -/
  | aamBase (imm : Byte)
  /-- AAD_BASE: `11010101 imm8 (imm8 != 0x0A)` (R329). -/
  | aadBase (imm : Byte)
  deriving DecidableEq, Repr

end Sys2Proof
end

