-- ==== Sys2Proof/WellFormed.lean ====
section
/-! DEFINITION. Which instruction terms an encoding exists for: a register operand has the operand width and is a general
name, a displacement fits its tag's displacement bytes, a one-byte immediate is held sign-extended, and the base of a
refused AAM or AAD form is not 0x0A (30_encoding.md R75, R78, R81, R82, R83, R84). -/

namespace Sys2Proof

/-- The word is the sign extension of its low byte (30_encoding.md R82, R83). -/
def fitsByte (v : Word) : Bool := v == (v.setWidth 8).signExtend 16

/-- A general register of the effective width `w` (30_encoding.md R78). -/
def wfReg (w : Bool) (r : RegName) : Bool := !r.isSegment && (r.isByte == !w)

/-- The displacement is one that a tag with `n` displacement bytes can carry (30_encoding.md R82; 40_decoder.md R124). -/
def wfDisp (n : Nat) (disp : Word) : Bool :=
  match n with
  | 0 => disp == 0
  | 1 => fitsByte disp
  | _ => true

/-- The register/memory operand can be encoded at width `w` (30_encoding.md R80, R81). -/
def wfRM (w : Bool) : RMOperand → Bool
  | .reg r => wfReg w r
  | .mem ea => wfDisp ea.tag.dispBytes ea.disp

/-- The immediate can be encoded in two bytes when `wide`, in one otherwise (30_encoding.md R83). -/
def wfImm (wide : Bool) (imm : Word) : Bool := wide || fitsByte imm

/-- The instruction has an encoding. -/
def Instr.WellFormed : Instr → Bool
  | .movRmReg _ w reg rm => wfReg w reg && wfRM w rm
  | .movImmRm w rm imm => wfRM w rm && wfImm w imm
  | .movImmReg w reg imm => wfReg w reg && wfImm w imm
  | .movMemAcc _ _ => true
  | .movAccMem _ _ => true
  | .movRmSr _ rm => wfRM true rm
  | .movSrRm _ rm => wfRM true rm
  | .pushRm rm => wfRM true rm
  | .pushReg reg => wfReg true reg
  | .pushSr _ => true
  | .popRm rm => wfRM true rm
  | .popReg reg => wfReg true reg
  | .popSr _ => true
  | .xchgRmReg w reg rm => wfReg w reg && wfRM w rm
  | .xchgRegAcc reg => wfReg true reg
  | .inFixed _ _ => true
  | .inVar _ => true
  | .outFixed _ _ => true
  | .outVar _ => true
  | .xlat => true
  | .lea reg rm => wfReg true reg && wfRM true rm
  | .lds reg rm => wfReg true reg && wfRM true rm
  | .les reg rm => wfReg true reg && wfRM true rm
  | .lahf => true
  | .sahf => true
  | .pushf => true
  | .popf => true
  | .addRmReg _ w reg rm => wfReg w reg && wfRM w rm
  | .addImmRm s w rm imm => wfRM w rm && wfImm (w && !s) imm
  | .addImmAcc w imm => wfImm w imm
  | .adcRmReg _ w reg rm => wfReg w reg && wfRM w rm
  | .adcImmRm s w rm imm => wfRM w rm && wfImm (w && !s) imm
  | .adcImmAcc w imm => wfImm w imm
  | .incRm w rm => wfRM w rm
  | .incReg reg => wfReg true reg
  | .aaa => true
  | .daa => true
  | .subRmReg _ w reg rm => wfReg w reg && wfRM w rm
  | .subImmRm s w rm imm => wfRM w rm && wfImm (w && !s) imm
  | .subImmAcc w imm => wfImm w imm
  | .sbbRmReg _ w reg rm => wfReg w reg && wfRM w rm
  | .sbbImmRm s w rm imm => wfRM w rm && wfImm (w && !s) imm
  | .sbbImmAcc w imm => wfImm w imm
  | .decRm w rm => wfRM w rm
  | .decReg reg => wfReg true reg
  | .neg w rm => wfRM w rm
  | .cmpRmReg _ w reg rm => wfReg w reg && wfRM w rm
  | .cmpImmRm s w rm imm => wfRM w rm && wfImm (w && !s) imm
  | .cmpImmAcc w imm => wfImm w imm
  | .aas => true
  | .das => true
  | .mul w rm => wfRM w rm
  | .imul w rm => wfRM w rm
  | .aam => true
  | .div w rm => wfRM w rm
  | .idiv w rm => wfRM w rm
  | .aad => true
  | .cbw => true
  | .cwd => true
  | .not w rm => wfRM w rm
  | .shl _ w rm => wfRM w rm
  | .shr _ w rm => wfRM w rm
  | .sar _ w rm => wfRM w rm
  | .rol _ w rm => wfRM w rm
  | .ror _ w rm => wfRM w rm
  | .rcl _ w rm => wfRM w rm
  | .rcr _ w rm => wfRM w rm
  | .andRmReg _ w reg rm => wfReg w reg && wfRM w rm
  | .andImmRm s w rm imm => wfRM w rm && wfImm (w && !s) imm
  | .andImmAcc w imm => wfImm w imm
  | .testRmReg w reg rm => wfReg w reg && wfRM w rm
  | .testImmRm w rm imm => wfRM w rm && wfImm w imm
  | .testImmAcc w imm => wfImm w imm
  | .orRmReg _ w reg rm => wfReg w reg && wfRM w rm
  | .orImmRm s w rm imm => wfRM w rm && wfImm (w && !s) imm
  | .orImmAcc w imm => wfImm w imm
  | .xorRmReg _ w reg rm => wfReg w reg && wfRM w rm
  | .xorImmRm s w rm imm => wfRM w rm && wfImm (w && !s) imm
  | .xorImmAcc w imm => wfImm w imm
  | .rep => true
  | .repne => true
  | .movs _ => true
  | .cmps _ => true
  | .scas _ => true
  | .lods _ => true
  | .stos _ => true
  | .callInd rm => wfRM true rm
  | .callFarInd rm => wfRM true rm
  | .jmpInd rm => wfRM true rm
  | .jmpFarInd rm => wfRM true rm
  | .ret => true
  | .retImm _ => true
  | .retf => true
  | .retfImm _ => true
  | .je _ => true
  | .jl _ => true
  | .jle _ => true
  | .jb _ => true
  | .jbe _ => true
  | .jp _ => true
  | .jo _ => true
  | .js _ => true
  | .jne _ => true
  | .jnl _ => true
  | .jnle _ => true
  | .jnb _ => true
  | .jnbe _ => true
  | .jnp _ => true
  | .jno _ => true
  | .jns _ => true
  | .loop _ => true
  | .loopz _ => true
  | .loopnz _ => true
  | .jcxz _ => true
  | .int _ => true
  | .int3 => true
  | .into => true
  | .iret => true
  | .clc => true
  | .cmc => true
  | .stc => true
  | .cld => true
  | .std => true
  | .cli => true
  | .sti => true
  | .hlt => true
  | .wait => true
  | .lock => true
  | .callNear => true
  | .callFar => true
  | .jmpNear => true
  | .jmpShort => true
  | .jmpFar => true
  | .esc _ => true
  | .segment _ => true
  | .aamBase imm => imm != 0x0A
  | .aadBase imm => imm != 0x0A

end Sys2Proof
end

