-- ==== Sys2Proof/Decode.lean ====
section
/-! DEFINITION. The decoder's byte side: the opcode table and the classifier (30_encoding.md R84 to R90; 40_decoder.md
R140), the field extractor (40_decoder.md R127 to R130, R142; 30_encoding.md R78 to R83), and after them the encoder,
written from the same tables. Decoding is total and rejects by name. -/

namespace Sys2Proof

/-! ## Why a byte sequence does not decode -/

/-- The decode reasons (60_exceptions.md R511, R512). -/
inductive DecodeReason where
  /-- No row of the opcode table matches (30_encoding.md R85). -/
  | Illegal
  /-- The matching row is a refused form (30_encoding.md R84). -/
  | NotDispatched
  /-- A byte that is needed lies at or past the end of the stream (30_encoding.md R86). -/
  | Truncated
  deriving DecidableEq, Repr

/-- The numeric cause codes (60_exceptions.md R512). -/
def DecodeReason.code : DecodeReason → Nat
  | .Illegal => 1
  | .NotDispatched => 2
  | .Truncated => 3

/-- What the decoder answers where it gives no instruction. The failing offset is the caller's (40_decoder.md R140). -/
inductive DecodeError where
  /-- There is no byte left: the pass is over, which is no failure (70_reset_and_hazards.md R557; log 23). -/
  | endOfStream
  /-- A decode failure with the bytes it names (60_exceptions.md R511). -/
  | failure (reason : DecodeReason) (b1 : Byte) (b2 : Option Byte)
  deriving DecidableEq, Repr

/-! ## Register and addressing tables -/

/-- `regName(f, W)` (30_encoding.md R78; 40_decoder.md R127). -/
def regName (f : BitVec 3) (w : Bool) : RegName :=
  if w then [RegName.AX, .CX, .DX, .BX, .SP, .BP, .SI, .DI].getD f.toNat .AX
  else [RegName.AL, .CL, .DL, .BL, .AH, .CH, .DH, .BH].getD f.toNat .AL

/-- The field value of a general register: the inverse of `regName` at the register's width (30_encoding.md R78). -/
def regCode : RegName → BitVec 3
  | .AL | .AX => 0
  | .CL | .CX => 1
  | .DL | .DX => 2
  | .BL | .BX => 3
  | .AH | .SP => 4
  | .CH | .BP => 5
  | .DH | .SI => 6
  | .BH | .DI => 7
  | .ES | .CS | .SS | .DS => 0

/-- `acc(W)` (40_decoder.md R127). -/
def acc (w : Bool) : RegName := regName 0 w

/-- `sregName(sr)` (30_encoding.md R79; 40_decoder.md R127). -/
def sregName (f : BitVec 2) : SegReg := [SegReg.ES, .CS, .SS, .DS].getD f.toNat .ES

/-- The 2-bit field of a segment register (30_encoding.md R79). -/
def SegReg.code : SegReg → BitVec 2
  | .ES => 0
  | .CS => 1
  | .SS => 2
  | .DS => 3

/-- The address-calculation table: the tag of a mod other than 0b11 and an rm field (30_encoding.md R81). -/
def eaTag (mod : BitVec 2) (rm : BitVec 3) : EATag :=
  ([[EATag.BX_SI, .BX_DI, .BP_SI, .BP_DI, .SI, .DI, .DIRECT, .BX],
    [.BX_SI_D8, .BX_DI_D8, .BP_SI_D8, .BP_DI_D8, .SI_D8, .DI_D8, .BP_D8, .BX_D8],
    [.BX_SI_D16, .BX_DI_D16, .BP_SI_D16, .BP_DI_D16, .SI_D16, .DI_D16, .BP_D16, .BX_D16]].getD mod.toNat []).getD
    rm.toNat .BX

/-- The mod field of a tag (30_encoding.md R81). -/
def EATag.mod : EATag → BitVec 2
  | .BX_SI | .BX_DI | .BP_SI | .BP_DI | .SI | .DI | .DIRECT | .BX => 0
  | .BX_SI_D8 | .BX_DI_D8 | .BP_SI_D8 | .BP_DI_D8 | .SI_D8 | .DI_D8 | .BP_D8 | .BX_D8 => 1
  | .BX_SI_D16 | .BX_DI_D16 | .BP_SI_D16 | .BP_DI_D16 | .SI_D16 | .DI_D16 | .BP_D16 | .BX_D16 => 2

/-- The rm field of a tag (30_encoding.md R81). -/
def EATag.rm : EATag → BitVec 3
  | .BX_SI | .BX_SI_D8 | .BX_SI_D16 => 0
  | .BX_DI | .BX_DI_D8 | .BX_DI_D16 => 1
  | .BP_SI | .BP_SI_D8 | .BP_SI_D16 => 2
  | .BP_DI | .BP_DI_D8 | .BP_DI_D16 => 3
  | .SI | .SI_D8 | .SI_D16 => 4
  | .DI | .DI_D8 | .DI_D16 => 5
  | .DIRECT | .BP_D8 | .BP_D16 => 6
  | .BX | .BX_D8 | .BX_D16 => 7

/-! ## Fields of the first two bytes (30_encoding.md R72) -/

/-- Bit 0 of b1: the width bit w. -/
def bitW (b1 : Byte) : Bool := b1.getLsbD 0

/-- Bit 1 of b1: the direction bit d, the sign-extension bit s or the shift-count bit v. -/
def bitD (b1 : Byte) : Bool := b1.getLsbD 1

/-- b1[2:0], the register field of formats R and RI. -/
def b1Reg (b1 : Byte) : BitVec 3 := b1.extractLsb' 0 3

/-- b1[4:3], the segment-register field of format S. -/
def b1Sr (b1 : Byte) : BitVec 2 := b1.extractLsb' 3 2

/-- b2[7:6] (40_decoder.md R128). -/
def b2Mod (b2 : Byte) : BitVec 2 := b2.extractLsb' 6 2

/-- b2[5:3] (40_decoder.md R128). -/
def b2Reg (b2 : Byte) : BitVec 3 := b2.extractLsb' 3 3

/-- b2[2:0] (40_decoder.md R128). -/
def b2Rm (b2 : Byte) : BitVec 3 := b2.extractLsb' 0 3

/-- b2[4:3], the segment-register field of format MS. -/
def b2Sr (b2 : Byte) : BitVec 2 := b2.extractLsb' 3 2

/-- Little-endian assembly of two bytes, `lo` at the lower stream offset (20_memory.md R55). -/
def le16 (lo hi : Byte) : Word := hi ++ lo

/-- Reads a displacement of `n` bytes (30_encoding.md R82); `none` where the stream ends first. -/
def readDisp (n : Nat) (bs : List Byte) : Option (Word × List Byte) :=
  match n, bs with
  | 0, r => some (0, r)
  | 1, b :: r => some (b.signExtend 16, r)
  | 1, [] => none
  | _, lo :: hi :: r => some (le16 lo hi, r)
  | _, _ => none

/-- Reads an immediate of two bytes when `wide`, of one sign-extended byte otherwise (30_encoding.md R83). -/
def readImm (wide : Bool) (bs : List Byte) : Option (Word × List Byte) :=
  match wide, bs with
  | true, lo :: hi :: r => some (le16 lo hi, r)
  | false, b :: r => some (b.signExtend 16, r)
  | _, _ => none

/-- The rm operand of the byte b2 at effective width `w`, with its displacement (40_decoder.md R130). -/
def readRM (w : Bool) (b2 : Byte) (bs : List Byte) : Option (RMOperand × List Byte) :=
  if b2Mod b2 = 3 then some (.reg (regName (b2Rm b2) w), bs)
  else
    match readDisp (eaTag (b2Mod b2) (b2Rm b2)).dispBytes bs with
    | some (disp, r) => some (.mem ⟨eaTag (b2Mod b2) (b2Rm b2), disp⟩, r)
    | none => none

/-- Splits off the byte b2 and the rm operand, and hands both on. -/
def withRM (w : Bool) (bs : List Byte) (k : Byte → RMOperand → List Byte → Option (Instr × List Byte)) :
    Option (Instr × List Byte) :=
  match bs with
  | [] => none
  | b2 :: r =>
    match readRM w b2 r with
    | some (e, r') => k b2 e r'
    | none => none

/-- Splits off an immediate and hands it on. -/
def withImm (wide : Bool) (bs : List Byte) (k : Word → List Byte → Option (Instr × List Byte)) :
    Option (Instr × List Byte) :=
  match readImm wide bs with
  | some (v, r) => k v r
  | none => none

/-- Splits off one byte and hands it on. -/
def withByte (bs : List Byte) (k : Byte → List Byte → Option (Instr × List Byte)) : Option (Instr × List Byte) :=
  match bs with
  | [] => none
  | b :: r => k b r

/-! ## The opcode table -/

/-- How a row's instruction is built from its bytes: the row's format (30_encoding.md R71), split by which of the bits d,
s, v and w its first byte carries, with the constructor it builds. -/
inductive RowKind where
  | O (i : Instr)
  | Ow (mk : Bool → Instr)
  | AA (i : Instr)
  | R (mk : RegName → Instr)
  | S (mk : SegReg → Instr)
  | J8 (mk : Byte → Instr)
  | I8 (mk : Byte → Instr)
  | I16 (mk : Word → Instr)
  | RI (mk : Bool → RegName → Word → Instr)
  | Pfix (mk : Bool → Byte → Instr)
  | Pvar (mk : Bool → Instr)
  | AM (mk : Bool → Word → Instr)
  | AI (mk : Bool → Word → Instr)
  | MRdw (mk : Bool → Bool → RegName → RMOperand → Instr)
  | MRw (mk : Bool → RegName → RMOperand → Instr)
  | MR (mk : RegName → RMOperand → Instr)
  | MRIsw (mk : Bool → Bool → RMOperand → Word → Instr)
  | MRIw (mk : Bool → RMOperand → Word → Instr)
  | Mw (mk : Bool → RMOperand → Instr)
  | M (mk : RMOperand → Instr)
  | MV (mk : Bool → Bool → RMOperand → Instr)
  | MS (mk : SegReg → RMOperand → Instr)
  /-- A refused form told by b1 alone. -/
  | x (i : Instr)
  /-- A refused form with a 3-bit field in b1[2:0]. -/
  | xEsc (mk : BitVec 3 → Instr)
  /-- A refused form with a segment-register field in b1[4:3]. -/
  | xSeg (mk : SegReg → Instr)
  /-- A refused form told by b1 and b2. -/
  | xBase (mk : Byte → Instr)

/-- One row: it matches a key when `key &&& mask = pattern` (30_encoding.md R89). -/
structure Row where
  mask : BitVec 16
  pattern : BitVec 16
  kind : RowKind

/-- Data transfer (43_data_transfer.md). -/
def rowsDataTransfer : List Row :=
  [⟨0xFC00, 0x8800, .MRdw .movRmReg⟩,
   ⟨0xFE38, 0xC600, .MRIw .movImmRm⟩,
   ⟨0xF000, 0xB000, .RI .movImmReg⟩,
   ⟨0xFE00, 0xA000, .AM .movMemAcc⟩,
   ⟨0xFE00, 0xA200, .AM .movAccMem⟩,
   ⟨0xFF20, 0x8E00, .MS .movRmSr⟩,
   ⟨0xFF20, 0x8C00, .MS .movSrRm⟩,
   ⟨0xFF38, 0xFF30, .M .pushRm⟩,
   ⟨0xF800, 0x5000, .R .pushReg⟩,
   ⟨0xE700, 0x0600, .S .pushSr⟩] ++
  [⟨0xFF38, 0x8F00, .M .popRm⟩,
   ⟨0xF800, 0x5800, .R .popReg⟩,
   ⟨0xE700, 0x0700, .S .popSr⟩,
   ⟨0xFE00, 0x8600, .MRw .xchgRmReg⟩,
   ⟨0xF800, 0x9000, .R .xchgRegAcc⟩,
   ⟨0xFE00, 0xE400, .Pfix .inFixed⟩,
   ⟨0xFE00, 0xEC00, .Pvar .inVar⟩,
   ⟨0xFE00, 0xE600, .Pfix .outFixed⟩,
   ⟨0xFE00, 0xEE00, .Pvar .outVar⟩,
   ⟨0xFF00, 0xD700, .O .xlat⟩] ++
  [⟨0xFF00, 0x8D00, .MR .lea⟩,
   ⟨0xFF00, 0xC500, .MR .lds⟩,
   ⟨0xFF00, 0xC400, .MR .les⟩,
   ⟨0xFF00, 0x9F00, .O .lahf⟩,
   ⟨0xFF00, 0x9E00, .O .sahf⟩,
   ⟨0xFF00, 0x9C00, .O .pushf⟩,
   ⟨0xFF00, 0x9D00, .O .popf⟩]

/-- Arithmetic (44_arithmetic.md). -/
def rowsArithmetic : List Row :=
  [⟨0xFC00, 0x0000, .MRdw .addRmReg⟩,
   ⟨0xFC38, 0x8000, .MRIsw .addImmRm⟩,
   ⟨0xFE00, 0x0400, .AI .addImmAcc⟩,
   ⟨0xFC00, 0x1000, .MRdw .adcRmReg⟩,
   ⟨0xFC38, 0x8010, .MRIsw .adcImmRm⟩,
   ⟨0xFE00, 0x1400, .AI .adcImmAcc⟩,
   ⟨0xFE38, 0xFE00, .Mw .incRm⟩,
   ⟨0xF800, 0x4000, .R .incReg⟩,
   ⟨0xFF00, 0x3700, .O .aaa⟩,
   ⟨0xFF00, 0x2700, .O .daa⟩] ++
  [⟨0xFC00, 0x2800, .MRdw .subRmReg⟩,
   ⟨0xFC38, 0x8028, .MRIsw .subImmRm⟩,
   ⟨0xFE00, 0x2C00, .AI .subImmAcc⟩,
   ⟨0xFC00, 0x1800, .MRdw .sbbRmReg⟩,
   ⟨0xFC38, 0x8018, .MRIsw .sbbImmRm⟩,
   ⟨0xFE00, 0x1C00, .AI .sbbImmAcc⟩,
   ⟨0xFE38, 0xFE08, .Mw .decRm⟩,
   ⟨0xF800, 0x4800, .R .decReg⟩,
   ⟨0xFE38, 0xF618, .Mw .neg⟩,
   ⟨0xFC00, 0x3800, .MRdw .cmpRmReg⟩] ++
  [⟨0xFC38, 0x8038, .MRIsw .cmpImmRm⟩,
   ⟨0xFE00, 0x3C00, .AI .cmpImmAcc⟩,
   ⟨0xFF00, 0x3F00, .O .aas⟩,
   ⟨0xFF00, 0x2F00, .O .das⟩,
   ⟨0xFE38, 0xF620, .Mw .mul⟩,
   ⟨0xFE38, 0xF628, .Mw .imul⟩,
   ⟨0xFFFF, 0xD40A, .AA .aam⟩,
   ⟨0xFE38, 0xF630, .Mw .div⟩,
   ⟨0xFE38, 0xF638, .Mw .idiv⟩,
   ⟨0xFFFF, 0xD50A, .AA .aad⟩] ++
  [⟨0xFF00, 0x9800, .O .cbw⟩,
   ⟨0xFF00, 0x9900, .O .cwd⟩]

/-- Logic, shift and rotate (45_logic.md). -/
def rowsLogic : List Row :=
  [⟨0xFE38, 0xF610, .Mw .not⟩,
   ⟨0xFC38, 0xD020, .MV .shl⟩,
   ⟨0xFC38, 0xD028, .MV .shr⟩,
   ⟨0xFC38, 0xD038, .MV .sar⟩,
   ⟨0xFC38, 0xD000, .MV .rol⟩,
   ⟨0xFC38, 0xD008, .MV .ror⟩,
   ⟨0xFC38, 0xD010, .MV .rcl⟩,
   ⟨0xFC38, 0xD018, .MV .rcr⟩,
   ⟨0xFC00, 0x2000, .MRdw .andRmReg⟩,
   ⟨0xFC38, 0x8020, .MRIsw .andImmRm⟩] ++
  [⟨0xFE00, 0x2400, .AI .andImmAcc⟩,
   ⟨0xFE00, 0x8400, .MRw .testRmReg⟩,
   ⟨0xFE38, 0xF600, .MRIw .testImmRm⟩,
   ⟨0xFE00, 0xA800, .AI .testImmAcc⟩,
   ⟨0xFC00, 0x0800, .MRdw .orRmReg⟩,
   ⟨0xFC38, 0x8008, .MRIsw .orImmRm⟩,
   ⟨0xFE00, 0x0C00, .AI .orImmAcc⟩,
   ⟨0xFC00, 0x3000, .MRdw .xorRmReg⟩,
   ⟨0xFC38, 0x8030, .MRIsw .xorImmRm⟩,
   ⟨0xFE00, 0x3400, .AI .xorImmAcc⟩]

/-- String (46_string.md). -/
def rowsStringOps : List Row :=
  [⟨0xFF00, 0xF300, .O .rep⟩,
   ⟨0xFF00, 0xF200, .O .repne⟩,
   ⟨0xFE00, 0xA400, .Ow .movs⟩,
   ⟨0xFE00, 0xA600, .Ow .cmps⟩,
   ⟨0xFE00, 0xAE00, .Ow .scas⟩,
   ⟨0xFE00, 0xAC00, .Ow .lods⟩,
   ⟨0xFE00, 0xAA00, .Ow .stos⟩]

/-- Control transfer (47_control_transfer.md). -/
def rowsControlTransfer : List Row :=
  [⟨0xFF38, 0xFF10, .M .callInd⟩,
   ⟨0xFF38, 0xFF18, .M .callFarInd⟩,
   ⟨0xFF38, 0xFF20, .M .jmpInd⟩,
   ⟨0xFF38, 0xFF28, .M .jmpFarInd⟩,
   ⟨0xFF00, 0xC300, .O .ret⟩,
   ⟨0xFF00, 0xC200, .I16 .retImm⟩,
   ⟨0xFF00, 0xCB00, .O .retf⟩,
   ⟨0xFF00, 0xCA00, .I16 .retfImm⟩,
   ⟨0xFF00, 0x7400, .J8 .je⟩,
   ⟨0xFF00, 0x7C00, .J8 .jl⟩] ++
  [⟨0xFF00, 0x7E00, .J8 .jle⟩,
   ⟨0xFF00, 0x7200, .J8 .jb⟩,
   ⟨0xFF00, 0x7600, .J8 .jbe⟩,
   ⟨0xFF00, 0x7A00, .J8 .jp⟩,
   ⟨0xFF00, 0x7000, .J8 .jo⟩,
   ⟨0xFF00, 0x7800, .J8 .js⟩,
   ⟨0xFF00, 0x7500, .J8 .jne⟩,
   ⟨0xFF00, 0x7D00, .J8 .jnl⟩,
   ⟨0xFF00, 0x7F00, .J8 .jnle⟩,
   ⟨0xFF00, 0x7300, .J8 .jnb⟩] ++
  [⟨0xFF00, 0x7700, .J8 .jnbe⟩,
   ⟨0xFF00, 0x7B00, .J8 .jnp⟩,
   ⟨0xFF00, 0x7100, .J8 .jno⟩,
   ⟨0xFF00, 0x7900, .J8 .jns⟩,
   ⟨0xFF00, 0xE200, .J8 .loop⟩,
   ⟨0xFF00, 0xE100, .J8 .loopz⟩,
   ⟨0xFF00, 0xE000, .J8 .loopnz⟩,
   ⟨0xFF00, 0xE300, .J8 .jcxz⟩,
   ⟨0xFF00, 0xCD00, .I8 .int⟩,
   ⟨0xFF00, 0xCC00, .O .int3⟩] ++
  [⟨0xFF00, 0xCE00, .O .into⟩,
   ⟨0xFF00, 0xCF00, .O .iret⟩]

/-- Processor control (48_processor_control.md). -/
def rowsProcessorControl : List Row :=
  [⟨0xFF00, 0xF800, .O .clc⟩,
   ⟨0xFF00, 0xF500, .O .cmc⟩,
   ⟨0xFF00, 0xF900, .O .stc⟩,
   ⟨0xFF00, 0xFC00, .O .cld⟩,
   ⟨0xFF00, 0xFD00, .O .std⟩,
   ⟨0xFF00, 0xFA00, .O .cli⟩,
   ⟨0xFF00, 0xFB00, .O .sti⟩,
   ⟨0xFF00, 0xF400, .O .hlt⟩,
   ⟨0xFF00, 0x9B00, .O .wait⟩,
   ⟨0xFF00, 0xF000, .O .lock⟩]

/-- Refused forms (30_encoding.md R84). -/
def rowsRefused : List Row :=
  [⟨0xFF00, 0xE800, .x .callNear⟩,
   ⟨0xFF00, 0x9A00, .x .callFar⟩,
   ⟨0xFF00, 0xE900, .x .jmpNear⟩,
   ⟨0xFF00, 0xEB00, .x .jmpShort⟩,
   ⟨0xFF00, 0xEA00, .x .jmpFar⟩,
   ⟨0xF800, 0xD800, .xEsc .esc⟩,
   ⟨0xE700, 0x2600, .xSeg .segment⟩,
   ⟨0xFF00, 0xD400, .xBase .aamBase⟩,
   ⟨0xFF00, 0xD500, .xBase .aadBase⟩]

/-- The opcode table: `opcode_table.json` in ascending priority (30_encoding.md R89, R91). -/
def opcodeTable : List Row :=
  rowsDataTransfer ++ rowsArithmetic ++ rowsLogic ++ rowsStringOps ++
  rowsControlTransfer ++ rowsProcessorControl ++ rowsRefused

/-- The first bytes whose classification inspects b2 (40_decoder.md R140). -/
def needsB2 (b1 : Byte) : Bool :=
  [0x80, 0x81, 0x82, 0x83, 0x8C, 0x8E, 0x8F, 0xC6, 0xC7, 0xD0, 0xD1, 0xD2, 0xD3, 0xD4, 0xD5, 0xF6, 0xF7, 0xFE,
    0xFF].contains b1

/-- The first row, in ascending priority, that matches the key (30_encoding.md R89, R90). -/
def lookupRow (key : BitVec 16) : Option Row :=
  opcodeTable.find? fun row => key &&& row.mask == row.pattern

/-- `Classify` up to the row: it inspects b2 only where `needsB2` (40_decoder.md R140). -/
def classify (b1 : Byte) (b2 : Option Byte) : Except DecodeReason Row :=
  match needsB2 b1, b2 with
  | true, none => .error .Truncated
  | true, some b2 =>
    match lookupRow (b1 ++ b2) with
    | some row => .ok row
    | none => .error .Illegal
  | false, _ =>
    match lookupRow (b1 ++ (0 : Byte)) with
    | some row => .ok row
    | none => .error .Illegal

/-- The length rule of the row's format reads b2 (30_encoding.md R94). -/
def RowKind.hasModRM : RowKind → Bool
  | .MRdw _ | .MRw _ | .MR _ | .MRIsw _ | .MRIw _ | .Mw _ | .M _ | .MV _ | .MS _ => true
  | .O _ | .Ow _ | .AA _ | .R _ | .S _ | .J8 _ | .I8 _ | .I16 _ | .RI _ | .Pfix _ | .Pvar _ | .AM _ | .AI _ | .x _ | .xEsc _
  | .xSeg _ | .xBase _ => false

/-- Builds the row's instruction from b1 and the bytes after it, and gives the bytes left; `none` where the stream ends
inside the instruction (40_decoder.md R131 to R147; forced widths R129). -/
def RowKind.build (kind : RowKind) (b1 : Byte) (bs : List Byte) : Option (Instr × List Byte) :=
  match kind with
  | .O i => some (i, bs)
  | .Ow mk => some (mk (bitW b1), bs)
  | .AA i => withByte bs fun _ r => some (i, r)
  | .R mk => some (mk (regName (b1Reg b1) true), bs)
  | .S mk => some (mk (sregName (b1Sr b1)), bs)
  | .J8 mk => withByte bs fun b r => some (mk b, r)
  | .I8 mk => withByte bs fun b r => some (mk b, r)
  | .I16 mk => withImm true bs fun v r => some (mk v, r)
  | .RI mk => withImm (b1.getLsbD 3) bs fun v r => some (mk (b1.getLsbD 3) (regName (b1Reg b1) (b1.getLsbD 3)) v, r)
  | .Pfix mk => withByte bs fun b r => some (mk (bitW b1) b, r)
  | .Pvar mk => some (mk (bitW b1), bs)
  | .AM mk => withImm true bs fun v r => some (mk (bitW b1) v, r)
  | .AI mk => withImm (bitW b1) bs fun v r => some (mk (bitW b1) v, r)
  | .MRdw mk =>
    withRM (bitW b1) bs fun b2 e r => some (mk (bitD b1) (bitW b1) (regName (b2Reg b2) (bitW b1)) e, r)
  | .MRw mk => withRM (bitW b1) bs fun b2 e r => some (mk (bitW b1) (regName (b2Reg b2) (bitW b1)) e, r)
  | .MR mk => withRM true bs fun b2 e r => some (mk (regName (b2Reg b2) true) e, r)
  | .MRIsw mk =>
    withRM (bitW b1) bs fun _ e r =>
      withImm (bitW b1 && !bitD b1) r fun v r' => some (mk (bitD b1) (bitW b1) e v, r')
  | .MRIw mk => withRM (bitW b1) bs fun _ e r => withImm (bitW b1) r fun v r' => some (mk (bitW b1) e v, r')
  | .Mw mk => withRM (bitW b1) bs fun _ e r => some (mk (bitW b1) e, r)
  | .M mk => withRM true bs fun _ e r => some (mk e, r)
  | .MV mk => withRM (bitW b1) bs fun _ e r => some (mk (bitD b1) (bitW b1) e, r)
  | .MS mk => withRM true bs fun b2 e r => some (mk (sregName (b2Sr b2)) e, r)
  | .x i => some (i, bs)
  | .xEsc mk => some (mk (b1Reg b1), bs)
  | .xSeg mk => some (mk (sregName (b1Sr b1)), bs)
  | .xBase mk => withByte bs fun b r => some (mk b, r)

/-- The nine refused forms of the opcode table: no Instruction record ever carries them (30_encoding.md R84;
40_decoder.md R122). -/
def Instr.isRefused : Instr → Bool
  | .callNear | .callFar | .jmpNear | .jmpShort | .jmpFar | .esc _ | .segment _ | .aamBase _ | .aadBase _ => true
  | .movRmReg _ _ _ _ | .movImmRm _ _ _ | .movImmReg _ _ _ | .movMemAcc _ _ | .movAccMem _ _ | .movRmSr _ _
  | .movSrRm _ _ | .pushRm _ | .pushReg _ | .pushSr _ | .popRm _ | .popReg _ | .popSr _ | .xchgRmReg _ _ _
  | .xchgRegAcc _ | .inFixed _ _ | .inVar _ | .outFixed _ _ | .outVar _ | .xlat | .lea _ _ | .lds _ _ | .les _ _
  | .lahf | .sahf | .pushf | .popf | .addRmReg _ _ _ _ | .addImmRm _ _ _ _ | .addImmAcc _ _ | .adcRmReg _ _ _ _
  | .adcImmRm _ _ _ _ | .adcImmAcc _ _ | .incRm _ _ | .incReg _ | .aaa | .daa | .subRmReg _ _ _ _
  | .subImmRm _ _ _ _ | .subImmAcc _ _ | .sbbRmReg _ _ _ _ | .sbbImmRm _ _ _ _ | .sbbImmAcc _ _ | .decRm _ _
  | .decReg _ | .neg _ _ | .cmpRmReg _ _ _ _ | .cmpImmRm _ _ _ _ | .cmpImmAcc _ _ | .aas | .das | .mul _ _
  | .imul _ _ | .aam | .div _ _ | .idiv _ _ | .aad | .cbw | .cwd | .not _ _ | .shl _ _ _ | .shr _ _ _
  | .sar _ _ _ | .rol _ _ _ | .ror _ _ _ | .rcl _ _ _ | .rcr _ _ _ | .andRmReg _ _ _ _ | .andImmRm _ _ _ _
  | .andImmAcc _ _ | .testRmReg _ _ _ | .testImmRm _ _ _ | .testImmAcc _ _ | .orRmReg _ _ _ _ | .orImmRm _ _ _ _
  | .orImmAcc _ _ | .xorRmReg _ _ _ _ | .xorImmRm _ _ _ _ | .xorImmAcc _ _ | .rep | .repne | .movs _ | .cmps _
  | .scas _ | .lods _ | .stos _ | .callInd _ | .callFarInd _ | .jmpInd _ | .jmpFarInd _ | .ret | .retImm _
  | .retf | .retfImm _ | .je _ | .jl _ | .jle _ | .jb _ | .jbe _ | .jp _ | .jo _ | .js _ | .jne _ | .jnl _
  | .jnle _ | .jnb _ | .jnbe _ | .jnp _ | .jno _ | .jns _ | .loop _ | .loopz _ | .loopnz _ | .jcxz _ | .int _
  | .int3 | .into | .iret | .clc | .cmc | .stc | .cld | .std | .cli | .sti | .hlt | .wait | .lock => false

/-- b2 where the classifier inspected it, else none (30_encoding.md R85). -/
def inspectedB2 (b1 : Byte) (bs : List Byte) : Option Byte := if needsB2 b1 then bs.head? else none

/-- Matches a row and builds its term, the refused forms too (of a refused form only the inspected bytes are taken). A
truncated instruction reports b2 where the classifier or the length rule read it (60_exceptions.md R511). -/
def decodeRow (bs : List Byte) : Except DecodeError (Instr × List Byte) :=
  match bs with
  | [] => .error .endOfStream
  | b1 :: rest =>
    match classify b1 rest.head? with
    | .error reason => .error (.failure reason b1 (inspectedB2 b1 rest))
    | .ok row =>
      match row.kind.build b1 rest with
      | some r => .ok r
      | none => .error (.failure .Truncated b1 (if row.kind.hasModRM then rest.head? else inspectedB2 b1 rest))

/-- The decoder on the bytes from one instruction's first byte: the instruction and the bytes after it, or why there is
none. A refused form is a failure (30_encoding.md R84; 40_decoder.md R140). -/
def decode (bs : List Byte) : Except DecodeError (Instr × List Byte) :=
  match decodeRow bs with
  | .error e => .error e
  | .ok (i, r) =>
    if i.isRefused then
      match bs with
      | b1 :: rest => .error (.failure .NotDispatched b1 (inspectedB2 b1 rest))
      | [] => .error .endOfStream
    else .ok (i, r)

/-! ## Lengths -/

/-- `immBytes` (30_encoding.md R75, R94). -/
def immBytes (wide : Bool) : Nat := if wide then 2 else 1

/-- The encoded size in bytes (30_encoding.md R94). Of a refused form, the bytes that the classifier inspects. -/
def Instr.size : Instr → Nat
  | .movRmReg _ _ _ rm => 2 + rm.dispBytes
  | .movImmRm w rm _ => 2 + rm.dispBytes + immBytes w
  | .movImmReg w _ _ => 1 + immBytes w
  | .movMemAcc _ _ => 3
  | .movAccMem _ _ => 3
  | .movRmSr _ rm => 2 + rm.dispBytes
  | .movSrRm _ rm => 2 + rm.dispBytes
  | .pushRm rm => 2 + rm.dispBytes
  | .pushReg _ => 1
  | .pushSr _ => 1
  | .popRm rm => 2 + rm.dispBytes
  | .popReg _ => 1
  | .popSr _ => 1
  | .xchgRmReg _ _ rm => 2 + rm.dispBytes
  | .xchgRegAcc _ => 1
  | .inFixed _ _ => 2
  | .inVar _ => 1
  | .outFixed _ _ => 2
  | .outVar _ => 1
  | .xlat => 1
  | .lea _ rm => 2 + rm.dispBytes
  | .lds _ rm => 2 + rm.dispBytes
  | .les _ rm => 2 + rm.dispBytes
  | .lahf => 1
  | .sahf => 1
  | .pushf => 1
  | .popf => 1
  | .addRmReg _ _ _ rm => 2 + rm.dispBytes
  | .addImmRm s w rm _ => 2 + rm.dispBytes + immBytes (w && !s)
  | .addImmAcc w _ => 1 + immBytes w
  | .adcRmReg _ _ _ rm => 2 + rm.dispBytes
  | .adcImmRm s w rm _ => 2 + rm.dispBytes + immBytes (w && !s)
  | .adcImmAcc w _ => 1 + immBytes w
  | .incRm _ rm => 2 + rm.dispBytes
  | .incReg _ => 1
  | .aaa => 1
  | .daa => 1
  | .subRmReg _ _ _ rm => 2 + rm.dispBytes
  | .subImmRm s w rm _ => 2 + rm.dispBytes + immBytes (w && !s)
  | .subImmAcc w _ => 1 + immBytes w
  | .sbbRmReg _ _ _ rm => 2 + rm.dispBytes
  | .sbbImmRm s w rm _ => 2 + rm.dispBytes + immBytes (w && !s)
  | .sbbImmAcc w _ => 1 + immBytes w
  | .decRm _ rm => 2 + rm.dispBytes
  | .decReg _ => 1
  | .neg _ rm => 2 + rm.dispBytes
  | .cmpRmReg _ _ _ rm => 2 + rm.dispBytes
  | .cmpImmRm s w rm _ => 2 + rm.dispBytes + immBytes (w && !s)
  | .cmpImmAcc w _ => 1 + immBytes w
  | .aas => 1
  | .das => 1
  | .mul _ rm => 2 + rm.dispBytes
  | .imul _ rm => 2 + rm.dispBytes
  | .aam => 2
  | .div _ rm => 2 + rm.dispBytes
  | .idiv _ rm => 2 + rm.dispBytes
  | .aad => 2
  | .cbw => 1
  | .cwd => 1
  | .not _ rm => 2 + rm.dispBytes
  | .shl _ _ rm => 2 + rm.dispBytes
  | .shr _ _ rm => 2 + rm.dispBytes
  | .sar _ _ rm => 2 + rm.dispBytes
  | .rol _ _ rm => 2 + rm.dispBytes
  | .ror _ _ rm => 2 + rm.dispBytes
  | .rcl _ _ rm => 2 + rm.dispBytes
  | .rcr _ _ rm => 2 + rm.dispBytes
  | .andRmReg _ _ _ rm => 2 + rm.dispBytes
  | .andImmRm s w rm _ => 2 + rm.dispBytes + immBytes (w && !s)
  | .andImmAcc w _ => 1 + immBytes w
  | .testRmReg _ _ rm => 2 + rm.dispBytes
  | .testImmRm w rm _ => 2 + rm.dispBytes + immBytes w
  | .testImmAcc w _ => 1 + immBytes w
  | .orRmReg _ _ _ rm => 2 + rm.dispBytes
  | .orImmRm s w rm _ => 2 + rm.dispBytes + immBytes (w && !s)
  | .orImmAcc w _ => 1 + immBytes w
  | .xorRmReg _ _ _ rm => 2 + rm.dispBytes
  | .xorImmRm s w rm _ => 2 + rm.dispBytes + immBytes (w && !s)
  | .xorImmAcc w _ => 1 + immBytes w
  | .rep => 1
  | .repne => 1
  | .movs _ => 1
  | .cmps _ => 1
  | .scas _ => 1
  | .lods _ => 1
  | .stos _ => 1
  | .callInd rm => 2 + rm.dispBytes
  | .callFarInd rm => 2 + rm.dispBytes
  | .jmpInd rm => 2 + rm.dispBytes
  | .jmpFarInd rm => 2 + rm.dispBytes
  | .ret => 1
  | .retImm _ => 3
  | .retf => 1
  | .retfImm _ => 3
  | .je _ => 2
  | .jl _ => 2
  | .jle _ => 2
  | .jb _ => 2
  | .jbe _ => 2
  | .jp _ => 2
  | .jo _ => 2
  | .js _ => 2
  | .jne _ => 2
  | .jnl _ => 2
  | .jnle _ => 2
  | .jnb _ => 2
  | .jnbe _ => 2
  | .jnp _ => 2
  | .jno _ => 2
  | .jns _ => 2
  | .loop _ => 2
  | .loopz _ => 2
  | .loopnz _ => 2
  | .jcxz _ => 2
  | .int _ => 2
  | .int3 => 1
  | .into => 1
  | .iret => 1
  | .clc => 1
  | .cmc => 1
  | .stc => 1
  | .cld => 1
  | .std => 1
  | .cli => 1
  | .sti => 1
  | .hlt => 1
  | .wait => 1
  | .lock => 1
  | .callNear => 1
  | .callFar => 1
  | .jmpNear => 1
  | .jmpShort => 1
  | .jmpFar => 1
  | .esc _ => 1
  | .segment _ => 1
  | .aamBase _ => 2
  | .aadBase _ => 2

/-! ## The encoder -/

/-- An opcode byte with the bit d, s or v in bit 1 and w in bit 0 (30_encoding.md R72). -/
def opDW (base : Byte) (d w : Bool) : Byte := base ||| (if d then 2 else 0) ||| (if w then 1 else 0)

/-- An opcode byte with w in bit 0 (30_encoding.md R72). -/
def opW (base : Byte) (w : Bool) : Byte := base ||| (if w then 1 else 0)

/-- The bytes of a displacement of `n` bytes (30_encoding.md R82). -/
def encDisp (n : Nat) (disp : Word) : List Byte :=
  match n with
  | 0 => []
  | 1 => [disp.setWidth 8]
  | _ => [disp.setWidth 8, disp.extractLsb' 8 8]

/-- The bytes of an immediate (30_encoding.md R83). -/
def encImm (wide : Bool) (imm : Word) : List Byte :=
  if wide then [imm.setWidth 8, imm.extractLsb' 8 8] else [imm.setWidth 8]

/-- The mod/reg/rm byte of its three fields (40_decoder.md R128). -/
def modRegRm (mod : BitVec 2) (reg rm : BitVec 3) : Byte := mod ++ (reg ++ rm)

/-- The mod/reg/rm byte with the field `reg`, and the displacement (30_encoding.md R80, R81). -/
def encRM (reg : BitVec 3) : RMOperand → List Byte
  | .reg r => [modRegRm 3 reg (regCode r)]
  | .mem ea => modRegRm ea.tag.mod reg ea.tag.rm :: encDisp ea.tag.dispBytes ea.disp

/-- The bytes of an instruction (30_encoding.md R91). Of a refused form, the bytes that the classifier inspects. -/
def encode : Instr → List Byte
  | .movRmReg d w reg rm => opDW 0x88 d w :: encRM (regCode reg) rm
  | .movImmRm w rm imm => opW 0xC6 w :: (encRM 0 rm ++ encImm w imm)
  | .movImmReg w reg imm => (0xB0 ||| (if w then 8 else 0) ||| (regCode reg).setWidth 8) :: encImm w imm
  | .movMemAcc w addr => opW 0xA0 w :: encImm true addr
  | .movAccMem w addr => opW 0xA2 w :: encImm true addr
  | .movRmSr sr rm => 0x8E :: encRM (sr.code.setWidth 3) rm
  | .movSrRm sr rm => 0x8C :: encRM (sr.code.setWidth 3) rm
  | .pushRm rm => 0xFF :: encRM 6 rm
  | .pushReg reg => [0x50 ||| (regCode reg).setWidth 8]
  | .pushSr sr => [0x06 ||| (sr.code.setWidth 8 <<< 3)]
  | .popRm rm => 0x8F :: encRM 0 rm
  | .popReg reg => [0x58 ||| (regCode reg).setWidth 8]
  | .popSr sr => [0x07 ||| (sr.code.setWidth 8 <<< 3)]
  | .xchgRmReg w reg rm => opW 0x86 w :: encRM (regCode reg) rm
  | .xchgRegAcc reg => [0x90 ||| (regCode reg).setWidth 8]
  | .inFixed w port => [opW 0xE4 w, port]
  | .inVar w => [opW 0xEC w]
  | .outFixed w port => [opW 0xE6 w, port]
  | .outVar w => [opW 0xEE w]
  | .xlat => [0xD7]
  | .lea reg rm => 0x8D :: encRM (regCode reg) rm
  | .lds reg rm => 0xC5 :: encRM (regCode reg) rm
  | .les reg rm => 0xC4 :: encRM (regCode reg) rm
  | .lahf => [0x9F]
  | .sahf => [0x9E]
  | .pushf => [0x9C]
  | .popf => [0x9D]
  | .addRmReg d w reg rm => opDW 0x00 d w :: encRM (regCode reg) rm
  | .addImmRm s w rm imm => opDW 0x80 s w :: (encRM 0 rm ++ encImm (w && !s) imm)
  | .addImmAcc w imm => opW 0x04 w :: encImm w imm
  | .adcRmReg d w reg rm => opDW 0x10 d w :: encRM (regCode reg) rm
  | .adcImmRm s w rm imm => opDW 0x80 s w :: (encRM 2 rm ++ encImm (w && !s) imm)
  | .adcImmAcc w imm => opW 0x14 w :: encImm w imm
  | .incRm w rm => opW 0xFE w :: encRM 0 rm
  | .incReg reg => [0x40 ||| (regCode reg).setWidth 8]
  | .aaa => [0x37]
  | .daa => [0x27]
  | .subRmReg d w reg rm => opDW 0x28 d w :: encRM (regCode reg) rm
  | .subImmRm s w rm imm => opDW 0x80 s w :: (encRM 5 rm ++ encImm (w && !s) imm)
  | .subImmAcc w imm => opW 0x2C w :: encImm w imm
  | .sbbRmReg d w reg rm => opDW 0x18 d w :: encRM (regCode reg) rm
  | .sbbImmRm s w rm imm => opDW 0x80 s w :: (encRM 3 rm ++ encImm (w && !s) imm)
  | .sbbImmAcc w imm => opW 0x1C w :: encImm w imm
  | .decRm w rm => opW 0xFE w :: encRM 1 rm
  | .decReg reg => [0x48 ||| (regCode reg).setWidth 8]
  | .neg w rm => opW 0xF6 w :: encRM 3 rm
  | .cmpRmReg d w reg rm => opDW 0x38 d w :: encRM (regCode reg) rm
  | .cmpImmRm s w rm imm => opDW 0x80 s w :: (encRM 7 rm ++ encImm (w && !s) imm)
  | .cmpImmAcc w imm => opW 0x3C w :: encImm w imm
  | .aas => [0x3F]
  | .das => [0x2F]
  | .mul w rm => opW 0xF6 w :: encRM 4 rm
  | .imul w rm => opW 0xF6 w :: encRM 5 rm
  | .aam => [0xD4, 0x0A]
  | .div w rm => opW 0xF6 w :: encRM 6 rm
  | .idiv w rm => opW 0xF6 w :: encRM 7 rm
  | .aad => [0xD5, 0x0A]
  | .cbw => [0x98]
  | .cwd => [0x99]
  | .not w rm => opW 0xF6 w :: encRM 2 rm
  | .shl v w rm => opDW 0xD0 v w :: encRM 4 rm
  | .shr v w rm => opDW 0xD0 v w :: encRM 5 rm
  | .sar v w rm => opDW 0xD0 v w :: encRM 7 rm
  | .rol v w rm => opDW 0xD0 v w :: encRM 0 rm
  | .ror v w rm => opDW 0xD0 v w :: encRM 1 rm
  | .rcl v w rm => opDW 0xD0 v w :: encRM 2 rm
  | .rcr v w rm => opDW 0xD0 v w :: encRM 3 rm
  | .andRmReg d w reg rm => opDW 0x20 d w :: encRM (regCode reg) rm
  | .andImmRm s w rm imm => opDW 0x80 s w :: (encRM 4 rm ++ encImm (w && !s) imm)
  | .andImmAcc w imm => opW 0x24 w :: encImm w imm
  | .testRmReg w reg rm => opW 0x84 w :: encRM (regCode reg) rm
  | .testImmRm w rm imm => opW 0xF6 w :: (encRM 0 rm ++ encImm w imm)
  | .testImmAcc w imm => opW 0xA8 w :: encImm w imm
  | .orRmReg d w reg rm => opDW 0x08 d w :: encRM (regCode reg) rm
  | .orImmRm s w rm imm => opDW 0x80 s w :: (encRM 1 rm ++ encImm (w && !s) imm)
  | .orImmAcc w imm => opW 0x0C w :: encImm w imm
  | .xorRmReg d w reg rm => opDW 0x30 d w :: encRM (regCode reg) rm
  | .xorImmRm s w rm imm => opDW 0x80 s w :: (encRM 6 rm ++ encImm (w && !s) imm)
  | .xorImmAcc w imm => opW 0x34 w :: encImm w imm
  | .rep => [0xF3]
  | .repne => [0xF2]
  | .movs w => [opW 0xA4 w]
  | .cmps w => [opW 0xA6 w]
  | .scas w => [opW 0xAE w]
  | .lods w => [opW 0xAC w]
  | .stos w => [opW 0xAA w]
  | .callInd rm => 0xFF :: encRM 2 rm
  | .callFarInd rm => 0xFF :: encRM 3 rm
  | .jmpInd rm => 0xFF :: encRM 4 rm
  | .jmpFarInd rm => 0xFF :: encRM 5 rm
  | .ret => [0xC3]
  | .retImm imm => 0xC2 :: encImm true imm
  | .retf => [0xCB]
  | .retfImm imm => 0xCA :: encImm true imm
  | .je disp => [0x74, disp]
  | .jl disp => [0x7C, disp]
  | .jle disp => [0x7E, disp]
  | .jb disp => [0x72, disp]
  | .jbe disp => [0x76, disp]
  | .jp disp => [0x7A, disp]
  | .jo disp => [0x70, disp]
  | .js disp => [0x78, disp]
  | .jne disp => [0x75, disp]
  | .jnl disp => [0x7D, disp]
  | .jnle disp => [0x7F, disp]
  | .jnb disp => [0x73, disp]
  | .jnbe disp => [0x77, disp]
  | .jnp disp => [0x7B, disp]
  | .jno disp => [0x71, disp]
  | .jns disp => [0x79, disp]
  | .loop disp => [0xE2, disp]
  | .loopz disp => [0xE1, disp]
  | .loopnz disp => [0xE0, disp]
  | .jcxz disp => [0xE3, disp]
  | .int imm => [0xCD, imm]
  | .int3 => [0xCC]
  | .into => [0xCE]
  | .iret => [0xCF]
  | .clc => [0xF8]
  | .cmc => [0xF5]
  | .stc => [0xF9]
  | .cld => [0xFC]
  | .std => [0xFD]
  | .cli => [0xFA]
  | .sti => [0xFB]
  | .hlt => [0xF4]
  | .wait => [0x9B]
  | .lock => [0xF0]
  | .callNear => [0xE8]
  | .callFar => [0x9A]
  | .jmpNear => [0xE9]
  | .jmpShort => [0xEB]
  | .jmpFar => [0xEA]
  | .esc x => [0xD8 ||| x.setWidth 8]
  | .segment sr => [0x26 ||| (sr.code.setWidth 8 <<< 3)]
  | .aamBase imm => [0xD4, imm]
  | .aadBase imm => [0xD5, imm]

/-! ## The words of the opcode table -/

/-- The six bytes of an instruction whose bits the table numbers as the key `b1 * 256 + b2` (30_encoding.md R89): b1 is
bits 15 to 8, b2 is bits 7 to 0, and a later byte's bits count on upward; a row of one byte has b1 in bits 7 to 0. Bits
at or above `nbits` are 0 (log 7). -/
def rowBytes (nbits w : Nat) : List Byte :=
  let v := w % 2 ^ nbits
  let byteAt := fun k => BitVec.ofNat 8 (v / 2 ^ k)
  if nbits ≤ 8 then [byteAt 0, 0, 0, 0, 0, 0]
  else [byteAt 8, byteAt 0, byteAt 16, byteAt 24, byteAt 32, byteAt 40]

/-- The instruction that `decode` reads from the word `w` of an opcode-table row. -/
def decodeTableWord (nbits w : Nat) : Option Instr :=
  match decode (rowBytes nbits w) with
  | .ok (i, _) => some i
  | .error _ => none

end Sys2Proof
end

