-- ==== Sys2Proof/Machine/Record.lean ====
section
/-! DEFINITION. The decoder's output records: Instruction Type with its mnemonic, tag and format, Data Location, the
Instruction record (40_decoder.md R122 to R126), the failure records (60_exceptions.md R511, R513), and the record of a
decoded instruction (40_decoder.md R131 to R147, R153, R154). -/

namespace Sys2Proof.Machine

/-- Instruction Type: the 128 decodable types in tag order (40_decoder.md R122; 30_encoding.md R91). -/
inductive InstrType where
  | MOV_RM_REG | MOV_IMM_RM | MOV_IMM_REG | MOV_MEM_ACC | MOV_ACC_MEM | MOV_RM_SR | MOV_SR_RM | PUSH_RM | PUSH_REG
  | PUSH_SR | POP_RM | POP_REG | POP_SR | XCHG_RM_REG | XCHG_REG_ACC | IN_FIXED | IN_VAR | OUT_FIXED | OUT_VAR | XLAT
  | LEA | LDS | LES | LAHF | SAHF | PUSHF | POPF | ADD_RM_REG | ADD_IMM_RM | ADD_IMM_ACC | ADC_RM_REG | ADC_IMM_RM
  | ADC_IMM_ACC | INC_RM | INC_REG | AAA | DAA | SUB_RM_REG | SUB_IMM_RM | SUB_IMM_ACC | SBB_RM_REG | SBB_IMM_RM
  | SBB_IMM_ACC | DEC_RM | DEC_REG | NEG | CMP_RM_REG | CMP_IMM_RM | CMP_IMM_ACC | AAS | DAS | MUL | IMUL | AAM | DIV
  | IDIV | AAD | CBW | CWD | NOT | SHL | SHR | SAR | ROL | ROR | RCL | RCR | AND_RM_REG | AND_IMM_RM | AND_IMM_ACC
  | TEST_RM_REG | TEST_IMM_RM | TEST_IMM_ACC | OR_RM_REG | OR_IMM_RM | OR_IMM_ACC | XOR_RM_REG | XOR_IMM_RM
  | XOR_IMM_ACC | REP | REPNE | MOVS | CMPS | SCAS | LODS | STOS | CALL_IND | CALL_FAR_IND | JMP_IND | JMP_FAR_IND
  | RET | RET_IMM | RETF | RETF_IMM | JE | JL | JLE | JB | JBE | JP | JO | JS | JNE | JNL | JNLE | JNB | JNBE | JNP
  | JNO | JNS | LOOP | LOOPZ | LOOPNZ | JCXZ | INT | INT3 | INTO | IRET | CLC | CMC | STC | CLD | STD | CLI | STI
  | HLT | WAIT | LOCK
  deriving DecidableEq, Repr

/-- The encoding formats of the decodable types (30_encoding.md R71). -/
inductive Format where
  | O | R | S | J8 | I8 | I16 | RI | P | AM | AI | MR | MRI | M | MV | MS | AA
  deriving DecidableEq, Repr

/-- The display mnemonic, the numeric tag and the format of a type: its row of the table (30_encoding.md R91;
40_decoder.md R122). -/
def InstrType.row : InstrType → String × Nat × Format
  | .MOV_RM_REG => ("mov", 0, .MR)
  | .MOV_IMM_RM => ("mov", 1, .MRI)
  | .MOV_IMM_REG => ("mov", 2, .RI)
  | .MOV_MEM_ACC => ("mov", 3, .AM)
  | .MOV_ACC_MEM => ("mov", 4, .AM)
  | .MOV_RM_SR => ("mov", 5, .MS)
  | .MOV_SR_RM => ("mov", 6, .MS)
  | .PUSH_RM => ("push", 7, .M)
  | .PUSH_REG => ("push", 8, .R)
  | .PUSH_SR => ("push", 9, .S)
  | .POP_RM => ("pop", 10, .M)
  | .POP_REG => ("pop", 11, .R)
  | .POP_SR => ("pop", 12, .S)
  | .XCHG_RM_REG => ("xchg", 13, .MR)
  | .XCHG_REG_ACC => ("xchg", 14, .R)
  | .IN_FIXED => ("in", 15, .P)
  | .IN_VAR => ("in", 16, .P)
  | .OUT_FIXED => ("out", 17, .P)
  | .OUT_VAR => ("out", 18, .P)
  | .XLAT => ("xlat", 19, .O)
  | .LEA => ("lea", 20, .MR)
  | .LDS => ("lds", 21, .MR)
  | .LES => ("les", 22, .MR)
  | .LAHF => ("lahf", 23, .O)
  | .SAHF => ("sahf", 24, .O)
  | .PUSHF => ("pushf", 25, .O)
  | .POPF => ("popf", 26, .O)
  | .ADD_RM_REG => ("add", 27, .MR)
  | .ADD_IMM_RM => ("add", 28, .MRI)
  | .ADD_IMM_ACC => ("add", 29, .AI)
  | .ADC_RM_REG => ("adc", 30, .MR)
  | .ADC_IMM_RM => ("adc", 31, .MRI)
  | .ADC_IMM_ACC => ("adc", 32, .AI)
  | .INC_RM => ("inc", 33, .M)
  | .INC_REG => ("inc", 34, .R)
  | .AAA => ("aaa", 35, .O)
  | .DAA => ("daa", 36, .O)
  | .SUB_RM_REG => ("sub", 37, .MR)
  | .SUB_IMM_RM => ("sub", 38, .MRI)
  | .SUB_IMM_ACC => ("sub", 39, .AI)
  | .SBB_RM_REG => ("sbb", 40, .MR)
  | .SBB_IMM_RM => ("sbb", 41, .MRI)
  | .SBB_IMM_ACC => ("sbb", 42, .AI)
  | .DEC_RM => ("dec", 43, .M)
  | .DEC_REG => ("dec", 44, .R)
  | .NEG => ("neg", 45, .M)
  | .CMP_RM_REG => ("cmp", 46, .MR)
  | .CMP_IMM_RM => ("cmp", 47, .MRI)
  | .CMP_IMM_ACC => ("cmp", 48, .AI)
  | .AAS => ("aas", 49, .O)
  | .DAS => ("das", 50, .O)
  | .MUL => ("mul", 51, .M)
  | .IMUL => ("imul", 52, .M)
  | .AAM => ("aam", 53, .AA)
  | .DIV => ("div", 54, .M)
  | .IDIV => ("idiv", 55, .M)
  | .AAD => ("aad", 56, .AA)
  | .CBW => ("cbw", 57, .O)
  | .CWD => ("cwd", 58, .O)
  | .NOT => ("not", 59, .M)
  | .SHL => ("shl", 60, .MV)
  | .SHR => ("shr", 61, .MV)
  | .SAR => ("sar", 62, .MV)
  | .ROL => ("rol", 63, .MV)
  | .ROR => ("ror", 64, .MV)
  | .RCL => ("rcl", 65, .MV)
  | .RCR => ("rcr", 66, .MV)
  | .AND_RM_REG => ("and", 67, .MR)
  | .AND_IMM_RM => ("and", 68, .MRI)
  | .AND_IMM_ACC => ("and", 69, .AI)
  | .TEST_RM_REG => ("test", 70, .MR)
  | .TEST_IMM_RM => ("test", 71, .MRI)
  | .TEST_IMM_ACC => ("test", 72, .AI)
  | .OR_RM_REG => ("or", 73, .MR)
  | .OR_IMM_RM => ("or", 74, .MRI)
  | .OR_IMM_ACC => ("or", 75, .AI)
  | .XOR_RM_REG => ("xor", 76, .MR)
  | .XOR_IMM_RM => ("xor", 77, .MRI)
  | .XOR_IMM_ACC => ("xor", 78, .AI)
  | .REP => ("rep", 79, .O)
  | .REPNE => ("repne", 80, .O)
  | .MOVS => ("movs", 81, .O)
  | .CMPS => ("cmps", 82, .O)
  | .SCAS => ("scas", 83, .O)
  | .LODS => ("lods", 84, .O)
  | .STOS => ("stos", 85, .O)
  | .CALL_IND => ("call", 86, .M)
  | .CALL_FAR_IND => ("call far", 87, .M)
  | .JMP_IND => ("jmp", 88, .M)
  | .JMP_FAR_IND => ("jmp far", 89, .M)
  | .RET => ("ret", 90, .O)
  | .RET_IMM => ("ret", 91, .I16)
  | .RETF => ("retf", 92, .O)
  | .RETF_IMM => ("retf", 93, .I16)
  | .JE => ("je", 94, .J8)
  | .JL => ("jl", 95, .J8)
  | .JLE => ("jle", 96, .J8)
  | .JB => ("jb", 97, .J8)
  | .JBE => ("jbe", 98, .J8)
  | .JP => ("jp", 99, .J8)
  | .JO => ("jo", 100, .J8)
  | .JS => ("js", 101, .J8)
  | .JNE => ("jne", 102, .J8)
  | .JNL => ("jnl", 103, .J8)
  | .JNLE => ("jg", 104, .J8)
  | .JNB => ("jnb", 105, .J8)
  | .JNBE => ("ja", 106, .J8)
  | .JNP => ("jnp", 107, .J8)
  | .JNO => ("jno", 108, .J8)
  | .JNS => ("jns", 109, .J8)
  | .LOOP => ("loop", 110, .J8)
  | .LOOPZ => ("loopz", 111, .J8)
  | .LOOPNZ => ("loopnz", 112, .J8)
  | .JCXZ => ("jcxz", 113, .J8)
  | .INT => ("int", 114, .I8)
  | .INT3 => ("int3", 115, .O)
  | .INTO => ("into", 116, .O)
  | .IRET => ("iret", 117, .O)
  | .CLC => ("clc", 118, .O)
  | .CMC => ("cmc", 119, .O)
  | .STC => ("stc", 120, .O)
  | .CLD => ("cld", 121, .O)
  | .STD => ("std", 122, .O)
  | .CLI => ("cli", 123, .O)
  | .STI => ("sti", 124, .O)
  | .HLT => ("hlt", 125, .O)
  | .WAIT => ("wait", 126, .O)
  | .LOCK => ("lock", 127, .O)

/-- The display mnemonic (40_decoder.md R122). -/
def InstrType.mnemonic (t : InstrType) : String := t.row.1

/-- The numeric tag, 0 to 127 (40_decoder.md R122). -/
def InstrType.tag (t : InstrType) : Nat := t.row.2.1

/-- The encoding format (30_encoding.md R71; 40_decoder.md R153). -/
def InstrType.format (t : InstrType) : Format := t.row.2.2

/-- Data Location (40_decoder.md R123). An immediate's value is a signed 16-bit number held as its 16 bits; a jump
target is an unbounded integer (40_decoder.md R134). -/
inductive DataLocation where
  | Register (name : RegName)
  | Memory (ea : AddressCalc) (wide suppress : Bool)
  | Immediate (value : Word) (wide suppress : Bool)
  | JumpLabel (target : Int)
  deriving DecidableEq, Repr

/-- True for a memory location. -/
def DataLocation.isMemory : DataLocation → Bool
  | .Memory _ _ _ => true
  | .Register _ | .Immediate _ _ _ | .JumpLabel _ => false

/-- The Instruction record (40_decoder.md R125). -/
structure Record where
  type : InstrType
  size : Nat
  wide : Bool
  dst : Option DataLocation
  src : Option DataLocation
  deriving DecidableEq, Repr

/-- dst or src is a memory location (42_execution_unit.md R198, check 2). -/
def Record.hasMemory (I : Record) : Bool := I.dst.any (·.isMemory) || I.src.any (·.isMemory)

/-- The decode-failure record (60_exceptions.md R511). -/
structure DecodeFailure where
  reason : DecodeReason
  offset : Nat
  b1 : Byte
  b2 : Option Byte
  deriving DecidableEq, Repr

/-- The simulation-failure record (60_exceptions.md R513). -/
inductive SimulationFailure where
  | NotImplemented (mnemonic : String) (tag : Nat)
  | MemoryOperand (instruction : Record)
  deriving DecidableEq, Repr

/-- The numeric cause codes (60_exceptions.md R513). -/
def SimulationFailure.code : SimulationFailure → Nat
  | .NotImplemented _ _ => 16
  | .MemoryOperand _ => 17

end Sys2Proof.Machine

namespace Sys2Proof

open Machine

/-! ## The record of an instruction -/

/-- The type of an instruction; none for a refused form (40_decoder.md R122). -/
def Instr.type : Instr → Option InstrType
  | .movRmReg _ _ _ _ => some .MOV_RM_REG
  | .movImmRm _ _ _ => some .MOV_IMM_RM
  | .movImmReg _ _ _ => some .MOV_IMM_REG
  | .movMemAcc _ _ => some .MOV_MEM_ACC
  | .movAccMem _ _ => some .MOV_ACC_MEM
  | .movRmSr _ _ => some .MOV_RM_SR
  | .movSrRm _ _ => some .MOV_SR_RM
  | .pushRm _ => some .PUSH_RM
  | .pushReg _ => some .PUSH_REG
  | .pushSr _ => some .PUSH_SR
  | .popRm _ => some .POP_RM
  | .popReg _ => some .POP_REG
  | .popSr _ => some .POP_SR
  | .xchgRmReg _ _ _ => some .XCHG_RM_REG
  | .xchgRegAcc _ => some .XCHG_REG_ACC
  | .inFixed _ _ => some .IN_FIXED
  | .inVar _ => some .IN_VAR
  | .outFixed _ _ => some .OUT_FIXED
  | .outVar _ => some .OUT_VAR
  | .xlat => some .XLAT
  | .lea _ _ => some .LEA
  | .lds _ _ => some .LDS
  | .les _ _ => some .LES
  | .lahf => some .LAHF
  | .sahf => some .SAHF
  | .pushf => some .PUSHF
  | .popf => some .POPF
  | .addRmReg _ _ _ _ => some .ADD_RM_REG
  | .addImmRm _ _ _ _ => some .ADD_IMM_RM
  | .addImmAcc _ _ => some .ADD_IMM_ACC
  | .adcRmReg _ _ _ _ => some .ADC_RM_REG
  | .adcImmRm _ _ _ _ => some .ADC_IMM_RM
  | .adcImmAcc _ _ => some .ADC_IMM_ACC
  | .incRm _ _ => some .INC_RM
  | .incReg _ => some .INC_REG
  | .aaa => some .AAA
  | .daa => some .DAA
  | .subRmReg _ _ _ _ => some .SUB_RM_REG
  | .subImmRm _ _ _ _ => some .SUB_IMM_RM
  | .subImmAcc _ _ => some .SUB_IMM_ACC
  | .sbbRmReg _ _ _ _ => some .SBB_RM_REG
  | .sbbImmRm _ _ _ _ => some .SBB_IMM_RM
  | .sbbImmAcc _ _ => some .SBB_IMM_ACC
  | .decRm _ _ => some .DEC_RM
  | .decReg _ => some .DEC_REG
  | .neg _ _ => some .NEG
  | .cmpRmReg _ _ _ _ => some .CMP_RM_REG
  | .cmpImmRm _ _ _ _ => some .CMP_IMM_RM
  | .cmpImmAcc _ _ => some .CMP_IMM_ACC
  | .aas => some .AAS
  | .das => some .DAS
  | .mul _ _ => some .MUL
  | .imul _ _ => some .IMUL
  | .aam => some .AAM
  | .div _ _ => some .DIV
  | .idiv _ _ => some .IDIV
  | .aad => some .AAD
  | .cbw => some .CBW
  | .cwd => some .CWD
  | .not _ _ => some .NOT
  | .shl _ _ _ => some .SHL
  | .shr _ _ _ => some .SHR
  | .sar _ _ _ => some .SAR
  | .rol _ _ _ => some .ROL
  | .ror _ _ _ => some .ROR
  | .rcl _ _ _ => some .RCL
  | .rcr _ _ _ => some .RCR
  | .andRmReg _ _ _ _ => some .AND_RM_REG
  | .andImmRm _ _ _ _ => some .AND_IMM_RM
  | .andImmAcc _ _ => some .AND_IMM_ACC
  | .testRmReg _ _ _ => some .TEST_RM_REG
  | .testImmRm _ _ _ => some .TEST_IMM_RM
  | .testImmAcc _ _ => some .TEST_IMM_ACC
  | .orRmReg _ _ _ _ => some .OR_RM_REG
  | .orImmRm _ _ _ _ => some .OR_IMM_RM
  | .orImmAcc _ _ => some .OR_IMM_ACC
  | .xorRmReg _ _ _ _ => some .XOR_RM_REG
  | .xorImmRm _ _ _ _ => some .XOR_IMM_RM
  | .xorImmAcc _ _ => some .XOR_IMM_ACC
  | .rep => some .REP
  | .repne => some .REPNE
  | .movs _ => some .MOVS
  | .cmps _ => some .CMPS
  | .scas _ => some .SCAS
  | .lods _ => some .LODS
  | .stos _ => some .STOS
  | .callInd _ => some .CALL_IND
  | .callFarInd _ => some .CALL_FAR_IND
  | .jmpInd _ => some .JMP_IND
  | .jmpFarInd _ => some .JMP_FAR_IND
  | .ret => some .RET
  | .retImm _ => some .RET_IMM
  | .retf => some .RETF
  | .retfImm _ => some .RETF_IMM
  | .je _ => some .JE
  | .jl _ => some .JL
  | .jle _ => some .JLE
  | .jb _ => some .JB
  | .jbe _ => some .JBE
  | .jp _ => some .JP
  | .jo _ => some .JO
  | .js _ => some .JS
  | .jne _ => some .JNE
  | .jnl _ => some .JNL
  | .jnle _ => some .JNLE
  | .jnb _ => some .JNB
  | .jnbe _ => some .JNBE
  | .jnp _ => some .JNP
  | .jno _ => some .JNO
  | .jns _ => some .JNS
  | .loop _ => some .LOOP
  | .loopz _ => some .LOOPZ
  | .loopnz _ => some .LOOPNZ
  | .jcxz _ => some .JCXZ
  | .int _ => some .INT
  | .int3 => some .INT3
  | .into => some .INTO
  | .iret => some .IRET
  | .clc => some .CLC
  | .cmc => some .CMC
  | .stc => some .STC
  | .cld => some .CLD
  | .std => some .STD
  | .cli => some .CLI
  | .sti => some .STI
  | .hlt => some .HLT
  | .wait => some .WAIT
  | .lock => some .LOCK
  | .callNear => none
  | .callFar => none
  | .jmpNear => none
  | .jmpShort => none
  | .jmpFar => none
  | .esc _ => none
  | .segment _ => none
  | .aamBase _ => none
  | .aadBase _ => none

/-- The data location of an rm operand (40_decoder.md R130). -/
def rmLocation (w suppress : Bool) : RMOperand → DataLocation
  | .reg r => .Register r
  | .mem ea => .Memory ea w suppress

/-- Destination and source by the direction bit: `d` makes the reg operand the destination (40_decoder.md R142). -/
def direction (d : Bool) (g e : DataLocation) : DataLocation × DataLocation := if d then (g, e) else (e, g)

/-- A one-byte immediate as held: sign-extended and narrow (30_encoding.md R83; 40_decoder.md R135, R137). -/
def byteImmediate (b : Byte) : DataLocation := .Immediate (b.signExtend 16) false true

/-- The count operand of a shift or rotate (40_decoder.md R145). -/
def shiftCount (v : Bool) : DataLocation := if v then .Register .CL else .Immediate 1 false true

/-- The absolute target of a jump at stream offset `p` (40_decoder.md R134). -/
def jumpTarget (p : Nat) (disp : Byte) : Int := ((p : Int) + 2) + disp.toInt

/-- The record of a type with two operands (40_decoder.md R125). -/
def twoOperandRecord (t : InstrType) (size : Nat) (ds : DataLocation × DataLocation) : Record :=
  ⟨t, size, false, some ds.1, some ds.2⟩

/-- Two operands, present. -/
def both (ds : DataLocation × DataLocation) : Option DataLocation × Option DataLocation := (some ds.1, some ds.2)

/-- The destination and source of the record of an instruction at stream offset `p` (40_decoder.md R131 to R147). A
refused form has none. -/
def Instr.operands (p : Nat) : Instr → Option DataLocation × Option DataLocation
  | .xlat | .lahf | .sahf | .pushf | .popf | .aaa | .daa | .aas | .das | .aam | .aad | .cbw | .cwd | .rep
  | .repne | .movs _ | .cmps _ | .scas _ | .lods _ | .stos _ | .ret | .retf | .int3 | .into | .iret | .clc
  | .cmc | .stc | .cld | .std | .cli | .sti | .hlt | .wait | .lock | .callNear | .callFar | .jmpNear | .jmpShort
  | .jmpFar | .esc _ | .segment _ | .aamBase _ | .aadBase _ =>
    (none, none)
  | .pushReg reg | .popReg reg | .incReg reg | .decReg reg =>
    (some (.Register reg), none)
  | .xchgRegAcc reg =>
    both (.Register .AX, .Register reg)
  | .pushSr sr | .popSr sr =>
    (some (.Register sr.name), none)
  | .je disp | .jl disp | .jle disp | .jb disp | .jbe disp | .jp disp | .jo disp | .js disp | .jne disp
  | .jnl disp | .jnle disp | .jnb disp | .jnbe disp | .jnp disp | .jno disp | .jns disp | .loop disp
  | .loopz disp | .loopnz disp | .jcxz disp =>
    (some (.JumpLabel (jumpTarget p disp)), none)
  | .int imm =>
    (some (byteImmediate imm), none)
  | .retImm imm | .retfImm imm =>
    (some (.Immediate imm true true), none)
  | .movImmReg w reg imm =>
    both (.Register reg, .Immediate imm w false)
  | .inFixed w port =>
    both (.Register (acc w), byteImmediate port)
  | .inVar w =>
    both (.Register (acc w), .Register .DX)
  | .outFixed w port =>
    both (byteImmediate port, .Register (acc w))
  | .outVar w =>
    both (.Register .DX, .Register (acc w))
  | .movMemAcc w addr =>
    both (.Register (acc w), .Memory ⟨.DIRECT, addr⟩ w false)
  | .movAccMem w addr =>
    both (.Memory ⟨.DIRECT, addr⟩ w false, .Register (acc w))
  | .addImmAcc w imm | .adcImmAcc w imm | .subImmAcc w imm | .sbbImmAcc w imm | .cmpImmAcc w imm
  | .andImmAcc w imm | .testImmAcc w imm | .orImmAcc w imm | .xorImmAcc w imm =>
    both (.Register (acc w), .Immediate imm w false)
  | .movRmReg d w reg rm | .addRmReg d w reg rm | .adcRmReg d w reg rm | .subRmReg d w reg rm
  | .sbbRmReg d w reg rm | .cmpRmReg d w reg rm | .andRmReg d w reg rm | .orRmReg d w reg rm
  | .xorRmReg d w reg rm =>
    both (direction d (.Register reg) (rmLocation w false rm))
  | .xchgRmReg w reg rm =>
    both (.Register reg, rmLocation w false rm)
  | .testRmReg w reg rm =>
    both (rmLocation w false rm, .Register reg)
  | .lea reg rm | .lds reg rm | .les reg rm =>
    both (.Register reg, rmLocation true true rm)
  | .addImmRm s w rm imm | .adcImmRm s w rm imm | .subImmRm s w rm imm | .sbbImmRm s w rm imm
  | .cmpImmRm s w rm imm | .andImmRm s w rm imm | .orImmRm s w rm imm | .xorImmRm s w rm imm =>
    both (rmLocation w false rm, .Immediate imm (w && !s) false)
  | .movImmRm w rm imm | .testImmRm w rm imm =>
    both (rmLocation w false rm, .Immediate imm w false)
  | .incRm w rm | .decRm w rm | .neg w rm | .mul w rm | .imul w rm | .div w rm | .idiv w rm | .not w rm =>
    (some (rmLocation w false rm), none)
  | .pushRm rm | .popRm rm | .callInd rm | .jmpInd rm =>
    (some (rmLocation true false rm), none)
  | .callFarInd rm | .jmpFarInd rm =>
    (some (rmLocation true true rm), none)
  | .shl v w rm | .shr v w rm | .sar v w rm | .rol v w rm | .ror v w rm | .rcl v w rm | .rcr v w rm =>
    both (rmLocation w false rm, shiftCount v)
  | .movRmSr sr rm =>
    both (.Register sr.name, rmLocation true false rm)
  | .movSrRm sr rm =>
    both (rmLocation true false rm, .Register sr.name)

/-- The record's width flag: set by the word forms of the string operations alone (40_decoder.md R125, R133). -/
def Instr.wideFlag : Instr → Bool
  | .movs w | .cmps w | .scas w | .lods w | .stos w =>
    w
  | .movRmReg _ _ _ _ | .movImmRm _ _ _ | .movImmReg _ _ _ | .movMemAcc _ _ | .movAccMem _ _ | .movRmSr _ _
  | .movSrRm _ _ | .pushRm _ | .pushReg _ | .pushSr _ | .popRm _ | .popReg _ | .popSr _ | .xchgRmReg _ _ _
  | .xchgRegAcc _ | .inFixed _ _ | .inVar _ | .outFixed _ _ | .outVar _ | .xlat | .lea _ _ | .lds _ _ | .les _ _
  | .lahf | .sahf | .pushf | .popf | .addRmReg _ _ _ _ | .addImmRm _ _ _ _ | .addImmAcc _ _ | .adcRmReg _ _ _ _
  | .adcImmRm _ _ _ _ | .adcImmAcc _ _ | .incRm _ _ | .incReg _ | .aaa | .daa | .subRmReg _ _ _ _
  | .subImmRm _ _ _ _ | .subImmAcc _ _ | .sbbRmReg _ _ _ _ | .sbbImmRm _ _ _ _ | .sbbImmAcc _ _ | .decRm _ _
  | .decReg _ | .neg _ _ | .cmpRmReg _ _ _ _ | .cmpImmRm _ _ _ _ | .cmpImmAcc _ _ | .aas | .das | .mul _ _
  | .imul _ _ | .aam | .div _ _ | .idiv _ _ | .aad | .cbw | .cwd | .not _ _ | .shl _ _ _ | .shr _ _ _
  | .sar _ _ _ | .rol _ _ _ | .ror _ _ _ | .rcl _ _ _ | .rcr _ _ _ | .andRmReg _ _ _ _ | .andImmRm _ _ _ _
  | .andImmAcc _ _ | .testRmReg _ _ _ | .testImmRm _ _ _ | .testImmAcc _ _ | .orRmReg _ _ _ _ | .orImmRm _ _ _ _
  | .orImmAcc _ _ | .xorRmReg _ _ _ _ | .xorImmRm _ _ _ _ | .xorImmAcc _ _ | .rep | .repne | .callInd _
  | .callFarInd _ | .jmpInd _ | .jmpFarInd _ | .ret | .retImm _ | .retf | .retfImm _ | .je _ | .jl _ | .jle _
  | .jb _ | .jbe _ | .jp _ | .jo _ | .js _ | .jne _ | .jnl _ | .jnle _ | .jnb _ | .jnbe _ | .jnp _ | .jno _
  | .jns _ | .loop _ | .loopz _ | .loopnz _ | .jcxz _ | .int _ | .int3 | .into | .iret | .clc | .cmc | .stc
  | .cld | .std | .cli | .sti | .hlt | .wait | .lock | .callNear | .callFar | .jmpNear | .jmpShort | .jmpFar
  | .esc _ | .segment _ | .aamBase _ | .aadBase _ =>
    false

/-- The Instruction record of an instruction at stream offset `p`; none for a refused form. -/
def Instr.record (p : Nat) (i : Instr) : Option Record :=
  match i.type with
  | none => none
  | some t => some ⟨t, i.size, i.wideFlag, (i.operands p).1, (i.operands p).2⟩

end Sys2Proof
end

