-- ==== Sys2Proof/Machine/State.lean ====
section
/-! DEFINITION. The machine's state, the reasons a step stops, and the state after reset (10_state.md R20, R21;
60_exceptions.md R510 to R516; 70_reset_and_hazards.md R550, R552). -/

namespace Sys2Proof.Machine

/-- The six condition flags (10_state.md R30). -/
structure Flags where
  CF : Bool
  PF : Bool
  AF : Bool
  ZF : Bool
  SF : Bool
  OF : Bool
  deriving DecidableEq, Repr

/-- The register file: 24 bytes (10_state.md R20, R22). -/
abbrev RegFile := Vector Byte 24

/-- The data memory: the cells that differ from zero, by rising address (10_state.md R34; log 10). -/
abbrev Memory := List Host.Cell

/-- What an unlisted cell of memory reads as: the reset contents (70_reset_and_hazards.md R550). -/
def Memory.blank : Byte := 0

/-- The canonical form of a memory of `size` bytes: addresses strictly rising and inside the memory, no listed cell equal
to what an unlisted one reads as. -/
abbrev Memory.wf (size : Nat) (m : Memory) : Prop :=
  m.Pairwise (fun x y => x.1 < y.1) ∧ ∀ c ∈ m, c.2 ≠ Memory.blank ∧ c.1 < size

/-- The Execution Context (10_state.md R20). -/
structure Context where
  regs : RegFile
  F : Flags
  ip : Word
  mem : Memory
  deriving DecidableEq, Repr

/-- The status of a decode pass (10_state.md R21). -/
inductive DecStatus where
  | Running
  | Done
  | Failed (f : DecodeFailure)
  deriving DecidableEq, Repr

/-- The decoder unit's state for one decode pass (10_state.md R21). -/
structure Decoder where
  cursor : Nat
  seq : List Record
  labels : List Int
  status : DecStatus
  deriving DecidableEq, Repr

/-- The machine: the Execution Context, the decoder's pass, and beside them what the spec calls arguments of the step
functions (10_state.md R36), which no step writes: the input byte stream and the parameters. -/
structure State where
  /-- The Execution Context. -/
  ctx : Context
  /-- The decode pass. -/
  dec : Decoder
  /-- The index in `dec.seq` of the record that the run executes next: the loop variable of `Simulate`
  (42_execution_unit.md R216). The model's own field (log 3). -/
  pos : Nat
  /-- The input byte stream B, read-only (20_memory.md R50). -/
  stream : List Byte
  /-- The parameters, read-only (00_scope.md R8; log 1). -/
  params : Params
  deriving DecidableEq, Repr

/-- The contract violations, the only faults (60_exceptions.md R515, R516; 42_execution_unit.md R222). Each stops the
machine, which is safe: no record that the decoder builds causes one. -/
inductive Fault where
  /-- A write to an immediate location: raised by `writeLoc` on a record built by hand. Safe. -/
  | WriteImmediate
  /-- A write to a jump-label location: raised by `writeLoc` on a record built by hand. Safe. -/
  | WriteLabel
  /-- A read of a jump-label location: raised by `readLoc` on a record built by hand. Safe. -/
  | ReadLabel
  /-- A register name outside the 20: raised by nobody, because `RegName` has exactly those 20 values
  (60_exceptions.md R515). Safe. -/
  | UnknownRegister
  /-- A simulated record without its dst or src: raised by `operandsOf` on a record built by hand. Safe. -/
  | MissingOperand
  deriving DecidableEq, Repr

/-- The numeric cause codes (60_exceptions.md R515). -/
def Fault.code : Fault → Nat
  | .WriteImmediate => 32
  | .WriteLabel => 33
  | .ReadLabel => 34
  | .UnknownRegister => 35
  | .MissingOperand => 36

/-- The refusals: the failures that end a pass or a run and leave the state unchanged (60_exceptions.md R516, R518). -/
inductive Refusal where
  /-- An instruction that has no meaning yet: raised by an arm of `exec` and by nothing else. Safe: the run stops. -/
  | notModelled (mnemonic : String)
  /-- The byte stream does not decode at an offset: raised by `step` and by the meanings of the refused forms
  (60_exceptions.md R511). The spec's own outcome, so neither safe nor unsafe: no departure. -/
  | decodeFailure (f : DecodeFailure)
  /-- The execution unit has no meaning for the type or the operand kind: raised by the meanings and by
  `simulateInstruction` (60_exceptions.md R513). The spec's own outcome, so no departure. -/
  | simulationFailure (f : SimulationFailure)
  deriving DecidableEq, Repr

/-- All six flags false. -/
def Flags.none : Flags := ⟨false, false, false, false, false, false⟩

/-- `NewContext()` (70_reset_and_hazards.md R550, R551). -/
def Context.reset : Context :=
  { regs := Vector.replicate 24 0, F := Flags.none, ip := 0, mem := [] }

/-- The decoder at the start of a pass (70_reset_and_hazards.md R552). -/
def Decoder.reset : Decoder :=
  { cursor := 0, seq := [], labels := [], status := .Running }

/-- The machine right after reset: the new context, a pass not begun, no byte supplied yet (log 5), the parameters at
the spec's defaults (log 2). -/
def State.reset : State :=
  { ctx := Context.reset, dec := Decoder.reset, pos := 0, stream := [], params := Params.default }

end Sys2Proof.Machine
end

