-- ==== Sys2Proof/Machine/Decoder.lean ====
section
/-! DEFINITION. The decoder unit's stream side: the label resolver and the decode pass (40_decoder.md R134, R140, R148 to
R150; 70_reset_and_hazards.md R552, R557). -/

namespace Sys2Proof.Machine

/-- `insert(labels, t)` by linear scan (40_decoder.md R149). -/
def insertLabel (labels : List Int) (t : Int) : List Int :=
  match labels with
  | [] => [t]
  | l :: rest => if l < t then l :: insertLabel rest t else if l = t then l :: rest else t :: l :: rest

/-- The labels after a record is emitted: a J8 record's target joins them (40_decoder.md R134, R140). -/
def labelsAfter (I : Record) (labels : List Int) : List Int :=
  match I.type.format, I.dst with
  | .J8, some (.JumpLabel t) => insertLabel labels t
  | _, _ => labels

/-- The emission of a decoded record: `emit(I)`, the label insert, and the cursor's advance (40_decoder.md R140). -/
def Decoder.emit (I : Record) (d : Decoder) : Decoder :=
  { d with cursor := d.cursor + I.size, seq := d.seq ++ [I], labels := labelsAfter I d.labels }

/-- One turn of the pass's loop, from the stream (40_decoder.md R140). A pass that is over stays as it is. -/
def Decoder.turn (stream : List Byte) (d : Decoder) : Decoder :=
  match d.status with
  | .Done | .Failed _ => d
  | .Running =>
    match decode (stream.drop d.cursor) with
    | .error .endOfStream => { d with status := .Done }
    | .error (.failure reason b1 b2) => { d with status := .Failed ⟨reason, d.cursor, b1, b2⟩ }
    | .ok (i, _) =>
      match i.record d.cursor with
      | some I => d.emit I
      | none => d

/-- Turns of the pass's loop. -/
def Decoder.turns (stream : List Byte) : Nat → Decoder → Decoder
  | 0, d => d
  | n + 1, d => Decoder.turns stream n (d.turn stream)

/-- `Decode(B)`: each turn but the last consumes a byte at least, so one turn more than the stream has bytes ends the
pass (40_decoder.md R120, R140; 70_reset_and_hazards.md R557). -/
def decodePass (stream : List Byte) : Decoder := Decoder.turns stream (stream.length + 1) Decoder.reset

/-- The failure of a pass, if it ended in one (40_decoder.md R120). -/
def Decoder.failure (d : Decoder) : Option DecodeFailure :=
  match d.status with
  | .Failed f => some f
  | .Running | .Done => none

/-- The host's `Decode` call: the whole pass ahead of the run (70_reset_and_hazards.md R555). -/
def State.decodeAll (s : State) : State := { s with dec := decodePass s.stream, pos := 0 }

end Sys2Proof.Machine
end

