-- ==== Sys2Proof/Machine/Ops.lean ====
section
/-! DEFINITION. The named operations over registers, memory and the instruction pointer, and the failures
(10_state.md R22 to R26, R33; 00_scope.md R11; 20_memory.md R56, R61; 60_exceptions.md R510 to R519). -/

namespace Sys2Proof.Machine

/-! ## Outcomes -/

/-- What every operation answers: a value, a fault or a refusal. -/
abbrev Out (α : Type) := Host.Outcome α Fault Refusal

/-- Goes on with the value; a fault or a refusal ends the instruction. -/
def Out.andThen {α β : Type} (o : Out α) (k : α → Out β) : Out β :=
  match o with
  | .next a => k a
  | .fault r => .fault r
  | .refused r => .refused r

/-! ## Failures

Taking a failure is the block's only exceptional entry. It saves nothing, changes no state and transfers no control: the
run ends, and the caller keeps the state as it was before the instruction, with the record of the failure. There is no
return from one (42_execution_unit.md R215; 60_exceptions.md R517 to R519). -/

/-- `raise SimulationFailure(f)` (60_exceptions.md R513, R516). -/
def raiseSimulation {α : Type} (f : SimulationFailure) : Out α := .refused (.simulationFailure f)

/-- `raise SimulationFailure(NotImplemented, mnemonic, tag)` (42_execution_unit.md R200). -/
def raiseNotImplemented {α : Type} (t : InstrType) : Out α := raiseSimulation (.NotImplemented t.mnemonic t.tag)

/-- `raise SimulationFailure(MemoryOperand, I)` (42_execution_unit.md R197). -/
def raiseMemoryOperand {α : Type} (I : Record) : Out α := raiseSimulation (.MemoryOperand I)

/-- `raise DecodeFailure(reason, offset, b1, b2?)` (60_exceptions.md R511, R516). -/
def raiseDecode {α : Type} (reason : DecodeReason) (offset : Nat) (b1 : Byte) (b2 : Option Byte) : Out α :=
  .refused (.decodeFailure ⟨reason, offset, b1, b2⟩)

/-- `raise ContractViolation(f)` (60_exceptions.md R515, R516). -/
def raiseContract {α : Type} (f : Fault) : Out α := .fault f

/-! ## Registers -/

/-- The position of a register's byte, of its low byte when it has two (10_state.md R22; log 9). -/
def regPos : RegName → Fin 24
  | .AX | .AL => 0
  | .AH => 1
  | .CX | .CL => 2
  | .CH => 3
  | .DX | .DL => 4
  | .DH => 5
  | .BX | .BL => 6
  | .BH => 7
  | .SP => 8
  | .BP => 10
  | .SI => 12
  | .DI => 14
  | .ES => 16
  | .CS => 18
  | .SS => 20
  | .DS => 22

/-- The position after `regPos`: of the high byte of a 16-bit register (10_state.md R24). -/
def regPosHi (r : RegName) : Fin 24 := regPos r + 1

/-- `x[r]`, an 8-bit value zero-extended (10_state.md R24; log 24). -/
def readReg (regs : RegFile) (r : RegName) : Word :=
  if r.isByte then (regs.get (regPos r)).setWidth 16 else le16 (regs.get (regPos r)) (regs.get (regPosHi r))

/-- The 16-bit register that a name is, or is an alias into (10_state.md R22). -/
def wordOf : RegName → RegName
  | .AL | .AH | .AX => .AX
  | .CL | .CH | .CX => .CX
  | .DL | .DH | .DX => .DX
  | .BL | .BH | .BX => .BX
  | .SP => .SP
  | .BP => .BP
  | .SI => .SI
  | .DI => .DI
  | .ES => .ES
  | .CS => .CS
  | .SS => .SS
  | .DS => .DS

/-- The two names share a byte of the register file: one name, or a 16-bit register and one of its aliases
(10_state.md R22, R26). -/
def sharesByte (r q : RegName) : Bool := r == q || (wordOf r == wordOf q && !(r.isByte && q.isByte))

/-- The register file with one byte replaced. -/
def setRegByte (regs : RegFile) (p : Fin 24) (b : Byte) : RegFile := regs.set p.val b p.isLt

/-- `x[r] <- v`, the low 8 bits of `v` into an 8-bit register (10_state.md R25). -/
def writeReg (regs : RegFile) (r : RegName) (v : Word) : RegFile :=
  if r.isByte then setRegByte regs (regPos r) (v.setWidth 8)
  else setRegByte (setRegByte regs (regPos r) (v.setWidth 8)) (regPosHi r) (v.extractLsb' 8 8)

/-! ## The instruction pointer -/

/-- `if IP_ADVANCES: ip <- trunc_16(ip + size)` (10_state.md R33). -/
def advanceIp (p : Params) (size : Nat) (ip : Word) : Word := if p.ipAdvances then ip + BitVec.ofNat 16 size else ip

/-! ## Memory

The primitives `MemRead` and `MemWrite` of 00_scope.md R11. No executed instruction calls them (20_memory.md R52;
42_execution_unit.md R197). -/

/-- The byte of the cell at an address. -/
def Memory.byteAt (m : Memory) (a : Nat) : Byte :=
  match m with
  | [] => Memory.blank
  | (b, v) :: m' => if a = b then v else Memory.byteAt m' a

/-- Puts a byte in front, unless it is what an unlisted cell reads as. -/
def Memory.cons (a : Nat) (v : Byte) (m : Memory) : Memory := if v = Memory.blank then m else (a, v) :: m

/-- The memory with one byte replaced, in the canonical form. -/
def Memory.setByte (m : Memory) (a : Nat) (v : Byte) : Memory :=
  match m with
  | [] => Memory.cons a v []
  | (b, u) :: m' =>
    if a < b then Memory.cons a v ((b, u) :: m')
    else if a = b then Memory.cons a v m'
    else (b, u) :: Memory.setByte m' a v

/-- `MemRead` of one byte, or of two in little-endian order when `wide`; nothing outside `0 .. size - 1`
(10_state.md R34; 20_memory.md R56, R58; log 10). -/
def memRead (size : Nat) (m : Memory) (a : Nat) (wide : Bool) : Option Word :=
  if wide then
    if a + 1 < size then some (le16 (m.byteAt a) (m.byteAt (a + 1))) else none
  else if a < size then some ((m.byteAt a).setWidth 16) else none

/-- `MemWrite` of one byte, or of two in little-endian order when `wide`; nothing outside `0 .. size - 1`
(10_state.md R34; 20_memory.md R56, R58; log 10). -/
def memWrite (size : Nat) (m : Memory) (a : Nat) (wide : Bool) (v : Word) : Option Memory :=
  if wide then
    if a + 1 < size then some ((m.setByte a (v.setWidth 8)).setByte (a + 1) (v.extractLsb' 8 8)) else none
  else if a < size then some (m.setByte a (v.setWidth 8)) else none

/-! ## State updates -/

/-- The state with the register file replaced. -/
def State.withRegs (s : State) (regs : RegFile) : State := { s with ctx := { s.ctx with regs := regs } }

/-- The state with the flags replaced. -/
def State.withFlags (s : State) (F : Flags) : State := { s with ctx := { s.ctx with F := F } }

/-- The state with ip advanced by an instruction's size (10_state.md R33). -/
def State.advance (s : State) (size : Nat) : State :=
  { s with ctx := { s.ctx with ip := advanceIp s.params size s.ctx.ip } }

end Sys2Proof.Machine
end

