-- ==== Sys2Proof/Machine/Operands.lean ====
section
/-! DEFINITION. Operand access: what a memory operand denotes (20_memory.md R61), the operation width
(42_execution_unit.md R191), and the read and the write of a Data Location (R192 to R194, R197, R222). -/

namespace Sys2Proof.Machine

/-- `base(t)`, the base-register part of a tag (20_memory.md R61; log 11). -/
def eaBase (regs : RegFile) : EATag → Word
  | .BX_SI | .BX_SI_D8 | .BX_SI_D16 => readReg regs .BX + readReg regs .SI
  | .BX_DI | .BX_DI_D8 | .BX_DI_D16 => readReg regs .BX + readReg regs .DI
  | .BP_SI | .BP_SI_D8 | .BP_SI_D16 => readReg regs .BP + readReg regs .SI
  | .BP_DI | .BP_DI_D8 | .BP_DI_D16 => readReg regs .BP + readReg regs .DI
  | .SI | .SI_D8 | .SI_D16 => readReg regs .SI
  | .DI | .DI_D8 | .DI_D16 => readReg regs .DI
  | .BP_D8 | .BP_D16 => readReg regs .BP
  | .BX | .BX_D8 | .BX_D16 => readReg regs .BX
  | .DIRECT => 0

/-- `EA(t, disp)`: no segment base is added, and the sum wraps modulo 2^16 (20_memory.md R61). No execution rule calls
it, because every memory operand fails first (20_memory.md R52). -/
def effectiveAddress (regs : RegFile) (ea : AddressCalc) : Word := eaBase regs ea.tag + ea.disp

/-- Reduces a value to the operation width: `trunc_8` zero-extended when not `wide` (00_scope.md R10; log 24). -/
def truncTo (wide : Bool) (v : Word) : Word := if wide then v else (v.setWidth 8).setWidth 16

/-- The operation width of a destination, true for 16 bits: a register's own width (42_execution_unit.md R191). Of a
location that no decoded record of a simulated type has as its destination, its width flag, 16 bits for a label
(log 14). -/
def locWide : DataLocation → Bool
  | .Register r => !r.isByte
  | .Memory _ wide _ => wide
  | .Immediate _ wide _ => wide
  | .JumpLabel _ => true

/-- `readLoc(ctx, loc, n)` for an operand of the record `I` (42_execution_unit.md R192, R194). -/
def readLoc (regs : RegFile) (I : Record) (loc : DataLocation) (wide : Bool) : Out Word :=
  match loc with
  | .Register r => .next (readReg regs r)
  | .Immediate v _ _ => .next (truncTo wide v)
  | .Memory _ _ _ => raiseMemoryOperand I
  | .JumpLabel _ => raiseContract .ReadLabel

/-- `writeLoc(ctx, loc, v)` for an operand of the record `I` (42_execution_unit.md R193). -/
def writeLoc (regs : RegFile) (I : Record) (loc : DataLocation) (v : Word) : Out RegFile :=
  match loc with
  | .Register r => .next (writeReg regs r v)
  | .Memory _ _ _ => raiseMemoryOperand I
  | .Immediate _ _ _ => raiseContract .WriteImmediate
  | .JumpLabel _ => raiseContract .WriteLabel

/-- The two operands of a simulated record; a record without one is a contract violation (42_execution_unit.md R222). It
is raised before the other operand is looked at, so MissingOperand comes before ReadLabel, WriteLabel and WriteImmediate
(DESIGN CHOICE: the rule does not order the violations, log 14). -/
def operandsOf (I : Record) : Out (DataLocation × DataLocation) :=
  match I.dst, I.src with
  | some dst, some src => .next (dst, src)
  | _, _ => raiseContract .MissingOperand

/-- Check 2 of a step: a simulated record with a memory location in either position fails before anything is read
(42_execution_unit.md R197, R198). -/
def noMemory (I : Record) (k : Out State) : Out State := if I.hasMemory then raiseMemoryOperand I else k

end Sys2Proof.Machine
end

