-- ==== Sys2Proof/Machine/Flags.lean ====
section
/-! DEFINITION. The result and flag functions of the execution unit (42_execution_unit.md R201 to R206). CF, AF and OF are
never computed (R196). -/

namespace Sys2Proof.Machine

/-- The two arithmetic operations (42_execution_unit.md R201). -/
inductive AluOp where
  | add
  | sub
  deriving DecidableEq, Repr

/-- `a op b` modulo 2^16. -/
def AluOp.apply (op : AluOp) (a b : Word) : Word :=
  match op with
  | .add => a + b
  | .sub => a - b

/-- `addResult(a, b, n)` and `subResult(a, b, n)` (42_execution_unit.md R201). -/
def aluResult (op : AluOp) (wide : Bool) (a b : Word) : Word := truncTo wide (op.apply a b)

/-- The number of 1 bits (00_scope.md R10). -/
def popcount (v : Word) : Nat := (List.range 16).countP fun k => v.getLsbD k

/-- Zero flag: the result is exactly 0 (42_execution_unit.md R202). -/
def zeroFlag (r : Word) : Bool := r == 0

/-- Sign flag: bit n - 1 of the result (42_execution_unit.md R203). -/
def signFlag (wide : Bool) (r : Word) : Bool := r.getLsbD (if wide then 15 else 7)

/-- Parity flag: an even number of set bits in all 16 bits of the result, not in the low 8 alone
(42_execution_unit.md R204; 93_implementation_defined.md O1). -/
def parityFlag (r : Word) : Bool := popcount r % 2 == 0

/-- `clearAll()` (42_execution_unit.md R205). -/
def clearAll (_F : Flags) : Flags := Flags.none

/-- `setZSP(r, n)`: CF, AF and OF are not written (42_execution_unit.md R205). -/
def setZSP (wide : Bool) (r : Word) (F : Flags) : Flags :=
  { F with ZF := zeroFlag r, SF := signFlag wide r, PF := parityFlag r }

/-- The value the flags are computed from and its width: the result itself, or under the basis `Wide16` the 16-bit
result of an 8-bit operation, with an immediate taken as held and a register zero-extended (42_execution_unit.md R206). -/
def flagBasis (basis : ByteResultBasis) (op : AluOp) (wide : Bool) (a b : Word) (src : DataLocation) : Word × Bool :=
  match basis, wide with
  | .Wide16, false =>
    match src with
    | .Immediate v _ _ => (op.apply a v, true)
    | .Register _ | .Memory _ _ _ | .JumpLabel _ => (op.apply a b, true)
  | .Wide16, true => (aluResult op true a b, true)
  | .Truncated, w => (aluResult op w a b, w)

/-- The flags after ADD or SUB: SUB clears all six first (42_execution_unit.md R205). -/
def aluFlags (op : AluOp) (basis : Word × Bool) (F : Flags) : Flags :=
  match op with
  | .add => setZSP basis.2 basis.1 F
  | .sub => setZSP basis.2 basis.1 (clearAll F)

end Sys2Proof.Machine
end

