-- ==== Sys2Proof/Machine/Execute.lean ====
section
/-! DEFINITION. The execution unit: the three shared operations of the ten simulated types, one step over a record, a run
over a list of records, and the host interface (42_execution_unit.md R190, R198 to R200, R216 to R221). -/

namespace Sys2Proof.Machine

/-- MOV: copies the source to the destination and writes no flag (43_data_transfer.md R230, R232, R235, R236). -/
def simMove (I : Record) (s : State) : Out State :=
  noMemory I <|
    (operandsOf I).andThen fun (dst, src) =>
      (readLoc s.ctx.regs I src (locWide dst)).andThen fun v =>
        (writeLoc s.ctx.regs I dst v).andThen fun regs => .next ((s.withRegs regs).advance I.size)

/-- ADD and SUB: both operands are read, then the result and the flags are written (44_arithmetic.md R300, R301, R310,
R311). -/
def simAlu (op : AluOp) (I : Record) (s : State) : Out State :=
  noMemory I <|
    (operandsOf I).andThen fun (dst, src) =>
      (readLoc s.ctx.regs I dst (locWide dst)).andThen fun a =>
        (readLoc s.ctx.regs I src (locWide dst)).andThen fun b =>
          (writeLoc s.ctx.regs I dst (aluResult op (locWide dst) a b)).andThen fun regs =>
            .next (((s.withRegs regs).withFlags
              (aluFlags op (flagBasis s.params.byteResultBasis op (locWide dst) a b src) s.ctx.F)).advance I.size)

/-- CMP: resolves both operands, clears all six flags, and writes nothing else (44_arithmetic.md R319, R320;
90_conflicts.md C1; log 13). -/
def simCmp (I : Record) (s : State) : Out State :=
  noMemory I <|
    (operandsOf I).andThen fun (dst, src) =>
      (readLoc s.ctx.regs I dst (locWide dst)).andThen fun _ =>
        (readLoc s.ctx.regs I src (locWide dst)).andThen fun _ =>
          .next ((s.withFlags (clearAll s.ctx.F)).advance I.size)

/-- The operations of the supported set (42_execution_unit.md R199). -/
inductive ExecOp where
  | copy
  | alu (op : AluOp)
  | compare
  deriving DecidableEq, Repr

/-- The supported set: ten types, and no other (42_execution_unit.md R199; log 15). -/
def supportedSet : List (InstrType × ExecOp) :=
  [(.MOV_IMM_REG, .copy), (.MOV_RM_REG, .copy), (.MOV_RM_SR, .copy), (.MOV_SR_RM, .copy),
   (.ADD_RM_REG, .alu .add), (.ADD_IMM_RM, .alu .add), (.SUB_RM_REG, .alu .sub), (.SUB_IMM_RM, .alu .sub),
   (.CMP_RM_REG, .compare), (.CMP_IMM_RM, .compare)]

/-- The operation of a type of the supported set. -/
def InstrType.execOp (t : InstrType) : Option ExecOp := supportedSet.lookup t

/-- Applies an operation to a record. -/
def ExecOp.run (op : ExecOp) (I : Record) (s : State) : Out State :=
  match op with
  | .copy => simMove I s
  | .alu op => simAlu op I s
  | .compare => simCmp I s

/-- `SimulateInstruction(ctx, I)`: NotImplemented is decided before MemoryOperand (42_execution_unit.md R198). -/
def simulateInstruction (I : Record) (s : State) : Out State :=
  match I.type.execOp with
  | none => raiseNotImplemented I.type
  | some op => op.run I s

/-- What the caller of a run gets (60_exceptions.md R516). -/
inductive RunResult where
  /-- The run ended: the state after the records that executed, and the failure it ended at, if any
  (42_execution_unit.md R216, R217). -/
  | returned (s : State) (failure : Option Refusal)
  /-- A contract violation: the caller gets nothing, and no state of the run is a final one (60_exceptions.md R515,
  R516). -/
  | violation (f : Fault)
  deriving DecidableEq, Repr

/-- The final state of a run; a run that violated the contract has none (60_exceptions.md R515, R516). -/
def RunResult.final : RunResult → Option State
  | .returned s _ => some s
  | .violation _ => none

/-- The run returned `failure = none` (60_exceptions.md R516; 70_reset_and_hazards.md R556). -/
def RunResult.succeeded : RunResult → Bool
  | .returned _ none => true
  | .returned _ (some _) => false
  | .violation _ => false

/-- `Simulate(ctx, seq)`: the records in list order, up to the first failure, which leaves the effects of the records
before it (42_execution_unit.md R216, R217; 70_reset_and_hazards.md R558). A contract violation is not returned beside
a partial result (60_exceptions.md R515). -/
def simulate (seq : List Record) (s : State) : RunResult :=
  match seq with
  | [] => .returned s none
  | I :: rest =>
    match simulateInstruction I s with
    | .next t => simulate rest t
    | .fault f => .violation f
    | .refused r => .returned s (some r)

/-! ## The host interface -/

/-- `GetRegister(ctx, name)` (42_execution_unit.md R219). -/
def getRegister (name : RegName) (s : State) : Word := readReg s.ctx.regs name

/-- `SetRegister(ctx, name, value)`: the value reduced to the register's width (42_execution_unit.md R220). -/
def setRegister (name : RegName) (value : Int) (s : State) : State :=
  s.withRegs (writeReg s.ctx.regs name (BitVec.ofInt 16 value))

end Sys2Proof.Machine
end

