-- ==== Sys2Proof/Machine/Arithmetic.lean ====
section
/-! DEFINITION. The meanings of the arithmetic family (44_arithmetic.md): ADD_RM_REG, ADD_IMM_RM, SUB_RM_REG,
SUB_IMM_RM, CMP_RM_REG and CMP_IMM_RM execute; every other type of the family fails with NotImplemented (44_arithmetic.md R332), and the two refused forms never decode. -/

namespace Sys2Proof.Machine

/-- ADD_RM_REG (R300). Writes the sum and ZF, SF, PF. -/
def execAddRmReg (d w : Bool) (reg : RegName) (rm : RMOperand) (s : State) : Out State :=
  simAlu .add (twoOperandRecord .ADD_RM_REG (2 + rm.dispBytes)
    (direction d (.Register reg) (rmLocation w false rm))) s

/-- ADD_IMM_RM (R301). Writes the sum and ZF, SF, PF. -/
def execAddImmRm (se w : Bool) (rm : RMOperand) (imm : Word) (s : State) : Out State :=
  simAlu .add (twoOperandRecord .ADD_IMM_RM (2 + rm.dispBytes + immBytes (w && !se))
    (rmLocation w false rm, .Immediate imm (w && !se) false)) s

/-- ADD_IMM_ACC (R302): fails on every execution (42_execution_unit.md R200). -/
def execAddImmAcc (_w : Bool) (_imm : Word) (_s : State) : Out State := raiseNotImplemented .ADD_IMM_ACC

/-- ADC_RM_REG (R303): fails on every execution (42_execution_unit.md R200). -/
def execAdcRmReg (_d _w : Bool) (_reg : RegName) (_rm : RMOperand) (_s : State) : Out State :=
  raiseNotImplemented .ADC_RM_REG

/-- ADC_IMM_RM (R304): fails on every execution (42_execution_unit.md R200). -/
def execAdcImmRm (_s _w : Bool) (_rm : RMOperand) (_imm : Word) (_s : State) : Out State :=
  raiseNotImplemented .ADC_IMM_RM

/-- ADC_IMM_ACC (R305): fails on every execution (42_execution_unit.md R200). -/
def execAdcImmAcc (_w : Bool) (_imm : Word) (_s : State) : Out State := raiseNotImplemented .ADC_IMM_ACC

/-- INC_RM (R306): fails on every execution (42_execution_unit.md R200). -/
def execIncRm (_w : Bool) (_rm : RMOperand) (_s : State) : Out State := raiseNotImplemented .INC_RM

/-- INC_REG (R307): fails on every execution (42_execution_unit.md R200). -/
def execIncReg (_reg : RegName) (_s : State) : Out State := raiseNotImplemented .INC_REG

/-- AAA (R308): fails on every execution (42_execution_unit.md R200). -/
def execAaa (_s : State) : Out State := raiseNotImplemented .AAA

/-- DAA (R309): fails on every execution (42_execution_unit.md R200). -/
def execDaa (_s : State) : Out State := raiseNotImplemented .DAA

/-- SUB_RM_REG (R310). Clears all six flags, writes the difference and ZF, SF, PF. -/
def execSubRmReg (d w : Bool) (reg : RegName) (rm : RMOperand) (s : State) : Out State :=
  simAlu .sub (twoOperandRecord .SUB_RM_REG (2 + rm.dispBytes)
    (direction d (.Register reg) (rmLocation w false rm))) s

/-- SUB_IMM_RM (R311). Clears all six flags, writes the difference and ZF, SF, PF. -/
def execSubImmRm (se w : Bool) (rm : RMOperand) (imm : Word) (s : State) : Out State :=
  simAlu .sub (twoOperandRecord .SUB_IMM_RM (2 + rm.dispBytes + immBytes (w && !se))
    (rmLocation w false rm, .Immediate imm (w && !se) false)) s

/-- SUB_IMM_ACC (R312): fails on every execution (42_execution_unit.md R200). -/
def execSubImmAcc (_w : Bool) (_imm : Word) (_s : State) : Out State := raiseNotImplemented .SUB_IMM_ACC

/-- SBB_RM_REG (R313): fails on every execution (42_execution_unit.md R200). -/
def execSbbRmReg (_d _w : Bool) (_reg : RegName) (_rm : RMOperand) (_s : State) : Out State :=
  raiseNotImplemented .SBB_RM_REG

/-- SBB_IMM_RM (R314): fails on every execution (42_execution_unit.md R200). -/
def execSbbImmRm (_s _w : Bool) (_rm : RMOperand) (_imm : Word) (_s : State) : Out State :=
  raiseNotImplemented .SBB_IMM_RM

/-- SBB_IMM_ACC (R315): fails on every execution (42_execution_unit.md R200). -/
def execSbbImmAcc (_w : Bool) (_imm : Word) (_s : State) : Out State := raiseNotImplemented .SBB_IMM_ACC

/-- DEC_RM (R316): fails on every execution (42_execution_unit.md R200). -/
def execDecRm (_w : Bool) (_rm : RMOperand) (_s : State) : Out State := raiseNotImplemented .DEC_RM

/-- DEC_REG (R317): fails on every execution (42_execution_unit.md R200). -/
def execDecReg (_reg : RegName) (_s : State) : Out State := raiseNotImplemented .DEC_REG

/-- NEG (R318): fails on every execution (42_execution_unit.md R200). -/
def execNeg (_w : Bool) (_rm : RMOperand) (_s : State) : Out State := raiseNotImplemented .NEG

/-- CMP_RM_REG (R319). Clears all six flags and writes nothing else. -/
def execCmpRmReg (d w : Bool) (reg : RegName) (rm : RMOperand) (s : State) : Out State :=
  simCmp (twoOperandRecord .CMP_RM_REG (2 + rm.dispBytes)
    (direction d (.Register reg) (rmLocation w false rm))) s

/-- CMP_IMM_RM (R320). Clears all six flags and writes nothing else. -/
def execCmpImmRm (se w : Bool) (rm : RMOperand) (imm : Word) (s : State) : Out State :=
  simCmp (twoOperandRecord .CMP_IMM_RM (2 + rm.dispBytes + immBytes (w && !se))
    (rmLocation w false rm, .Immediate imm (w && !se) false)) s

/-- CMP_IMM_ACC (R321): fails on every execution (42_execution_unit.md R200). -/
def execCmpImmAcc (_w : Bool) (_imm : Word) (_s : State) : Out State := raiseNotImplemented .CMP_IMM_ACC

/-- AAS (R322): fails on every execution (42_execution_unit.md R200). -/
def execAas (_s : State) : Out State := raiseNotImplemented .AAS

/-- DAS (R323): fails on every execution (42_execution_unit.md R200). -/
def execDas (_s : State) : Out State := raiseNotImplemented .DAS

/-- MUL (R324): fails on every execution (42_execution_unit.md R200). -/
def execMul (_w : Bool) (_rm : RMOperand) (_s : State) : Out State := raiseNotImplemented .MUL

/-- IMUL (R325): fails on every execution (42_execution_unit.md R200). -/
def execImul (_w : Bool) (_rm : RMOperand) (_s : State) : Out State := raiseNotImplemented .IMUL

/-- AAM (R326): fails on every execution (42_execution_unit.md R200). -/
def execAam (_s : State) : Out State := raiseNotImplemented .AAM

/-- DIV (R327): fails on every execution (42_execution_unit.md R200). -/
def execDiv (_w : Bool) (_rm : RMOperand) (_s : State) : Out State := raiseNotImplemented .DIV

/-- IDIV (R328): fails on every execution (42_execution_unit.md R200). -/
def execIdiv (_w : Bool) (_rm : RMOperand) (_s : State) : Out State := raiseNotImplemented .IDIV

/-- AAD (R329): fails on every execution (42_execution_unit.md R200). -/
def execAad (_s : State) : Out State := raiseNotImplemented .AAD

/-- CBW (R330): fails on every execution (42_execution_unit.md R200). -/
def execCbw (_s : State) : Out State := raiseNotImplemented .CBW

/-- CWD (R331): fails on every execution (42_execution_unit.md R200). -/
def execCwd (_s : State) : Out State := raiseNotImplemented .CWD

/-- AAM_BASE (R326; 30_encoding.md R84). Refused at decode: no record of it reaches the execution unit (log 8). -/
def execAamBase (imm : Byte) (s : State) : Out State := raiseDecode .NotDispatched s.dec.cursor 0xD4 (some imm)

/-- AAD_BASE (R329; 30_encoding.md R84). Refused at decode: no record of it reaches the execution unit (log 8). -/
def execAadBase (imm : Byte) (s : State) : Out State := raiseDecode .NotDispatched s.dec.cursor 0xD5 (some imm)

end Sys2Proof.Machine
end

