-- ==== Sys2Proof/Machine/ControlTransfer.lean ====
section
/-! DEFINITION. The meanings of the control transfer family (47_control_transfer.md): none of its types executes
and ip is never written with a target (47_control_transfer.md R430); the five refused forms never decode. -/

namespace Sys2Proof.Machine

/-- CALL_IND (R431): fails on every execution (42_execution_unit.md R200). -/
def execCallInd (_rm : RMOperand) (_s : State) : Out State := raiseNotImplemented .CALL_IND

/-- CALL_FAR_IND (R432): fails on every execution (42_execution_unit.md R200). -/
def execCallFarInd (_rm : RMOperand) (_s : State) : Out State := raiseNotImplemented .CALL_FAR_IND

/-- JMP_IND (R433): fails on every execution (42_execution_unit.md R200). -/
def execJmpInd (_rm : RMOperand) (_s : State) : Out State := raiseNotImplemented .JMP_IND

/-- JMP_FAR_IND (R434): fails on every execution (42_execution_unit.md R200). -/
def execJmpFarInd (_rm : RMOperand) (_s : State) : Out State := raiseNotImplemented .JMP_FAR_IND

/-- RET (R435): fails on every execution (42_execution_unit.md R200). -/
def execRet (_s : State) : Out State := raiseNotImplemented .RET

/-- RET_IMM (R436): fails on every execution (42_execution_unit.md R200). -/
def execRetImm (_imm : Word) (_s : State) : Out State := raiseNotImplemented .RET_IMM

/-- RETF (R437): fails on every execution (42_execution_unit.md R200). -/
def execRetf (_s : State) : Out State := raiseNotImplemented .RETF

/-- RETF_IMM (R438): fails on every execution (42_execution_unit.md R200). -/
def execRetfImm (_imm : Word) (_s : State) : Out State := raiseNotImplemented .RETF_IMM

/-- JE (R439): fails on every execution (42_execution_unit.md R200). -/
def execJe (_disp : Byte) (_s : State) : Out State := raiseNotImplemented .JE

/-- JL (R440): fails on every execution (42_execution_unit.md R200). -/
def execJl (_disp : Byte) (_s : State) : Out State := raiseNotImplemented .JL

/-- JLE (R441): fails on every execution (42_execution_unit.md R200). -/
def execJle (_disp : Byte) (_s : State) : Out State := raiseNotImplemented .JLE

/-- JB (R442): fails on every execution (42_execution_unit.md R200). -/
def execJb (_disp : Byte) (_s : State) : Out State := raiseNotImplemented .JB

/-- JBE (R443): fails on every execution (42_execution_unit.md R200). -/
def execJbe (_disp : Byte) (_s : State) : Out State := raiseNotImplemented .JBE

/-- JP (R444): fails on every execution (42_execution_unit.md R200). -/
def execJp (_disp : Byte) (_s : State) : Out State := raiseNotImplemented .JP

/-- JO (R445): fails on every execution (42_execution_unit.md R200). -/
def execJo (_disp : Byte) (_s : State) : Out State := raiseNotImplemented .JO

/-- JS (R446): fails on every execution (42_execution_unit.md R200). -/
def execJs (_disp : Byte) (_s : State) : Out State := raiseNotImplemented .JS

/-- JNE (R447): fails on every execution (42_execution_unit.md R200). -/
def execJne (_disp : Byte) (_s : State) : Out State := raiseNotImplemented .JNE

/-- JNL (R448): fails on every execution (42_execution_unit.md R200). -/
def execJnl (_disp : Byte) (_s : State) : Out State := raiseNotImplemented .JNL

/-- JNLE (R449): fails on every execution (42_execution_unit.md R200). -/
def execJnle (_disp : Byte) (_s : State) : Out State := raiseNotImplemented .JNLE

/-- JNB (R450): fails on every execution (42_execution_unit.md R200). -/
def execJnb (_disp : Byte) (_s : State) : Out State := raiseNotImplemented .JNB

/-- JNBE (R451): fails on every execution (42_execution_unit.md R200). -/
def execJnbe (_disp : Byte) (_s : State) : Out State := raiseNotImplemented .JNBE

/-- JNP (R452): fails on every execution (42_execution_unit.md R200). -/
def execJnp (_disp : Byte) (_s : State) : Out State := raiseNotImplemented .JNP

/-- JNO (R453): fails on every execution (42_execution_unit.md R200). -/
def execJno (_disp : Byte) (_s : State) : Out State := raiseNotImplemented .JNO

/-- JNS (R454): fails on every execution (42_execution_unit.md R200). -/
def execJns (_disp : Byte) (_s : State) : Out State := raiseNotImplemented .JNS

/-- LOOP (R455): fails on every execution (42_execution_unit.md R200). -/
def execLoop (_disp : Byte) (_s : State) : Out State := raiseNotImplemented .LOOP

/-- LOOPZ (R456): fails on every execution (42_execution_unit.md R200). -/
def execLoopz (_disp : Byte) (_s : State) : Out State := raiseNotImplemented .LOOPZ

/-- LOOPNZ (R457): fails on every execution (42_execution_unit.md R200). -/
def execLoopnz (_disp : Byte) (_s : State) : Out State := raiseNotImplemented .LOOPNZ

/-- JCXZ (R458): fails on every execution (42_execution_unit.md R200). -/
def execJcxz (_disp : Byte) (_s : State) : Out State := raiseNotImplemented .JCXZ

/-- INT (R459): fails on every execution (42_execution_unit.md R200). -/
def execInt (_imm : Byte) (_s : State) : Out State := raiseNotImplemented .INT

/-- INT3 (R460): fails on every execution (42_execution_unit.md R200). -/
def execInt3 (_s : State) : Out State := raiseNotImplemented .INT3

/-- INTO (R461): fails on every execution (42_execution_unit.md R200). -/
def execInto (_s : State) : Out State := raiseNotImplemented .INTO

/-- IRET (R462): fails on every execution (42_execution_unit.md R200). -/
def execIret (_s : State) : Out State := raiseNotImplemented .IRET

/-- CALL_NEAR (R463; 30_encoding.md R84). Refused at decode: no record of it reaches the execution unit (log 8). -/
def execCallNear (s : State) : Out State := raiseDecode .NotDispatched s.dec.cursor 0xE8 none

/-- CALL_FAR (R464; 30_encoding.md R84). Refused at decode: no record of it reaches the execution unit (log 8). -/
def execCallFar (s : State) : Out State := raiseDecode .NotDispatched s.dec.cursor 0x9A none

/-- JMP_NEAR (R465; 30_encoding.md R84). Refused at decode: no record of it reaches the execution unit (log 8). -/
def execJmpNear (s : State) : Out State := raiseDecode .NotDispatched s.dec.cursor 0xE9 none

/-- JMP_SHORT (R466; 30_encoding.md R84). Refused at decode: no record of it reaches the execution unit (log 8). -/
def execJmpShort (s : State) : Out State := raiseDecode .NotDispatched s.dec.cursor 0xEB none

/-- JMP_FAR (R467; 30_encoding.md R84). Refused at decode: no record of it reaches the execution unit (log 8). -/
def execJmpFar (s : State) : Out State := raiseDecode .NotDispatched s.dec.cursor 0xEA none

end Sys2Proof.Machine
end

