-- ==== Sys2Proof/Machine/DataTransfer.lean ====
section
/-! DEFINITION. The meanings of the data transfer family (43_data_transfer.md): MOV_RM_REG, MOV_IMM_REG, MOV_RM_SR
and MOV_SR_RM execute; every other type of the family fails with NotImplemented, and its 8086 meaning must not be modelled (43_data_transfer.md R257). -/

namespace Sys2Proof.Machine

/-- MOV_RM_REG (R230). Copies; no flag is written. -/
def execMovRmReg (d w : Bool) (reg : RegName) (rm : RMOperand) (s : State) : Out State :=
  simMove (twoOperandRecord .MOV_RM_REG (2 + rm.dispBytes)
    (direction d (.Register reg) (rmLocation w false rm))) s

/-- MOV_IMM_RM (R231): fails on every execution (42_execution_unit.md R200). -/
def execMovImmRm (_w : Bool) (_rm : RMOperand) (_imm : Word) (_s : State) : Out State :=
  raiseNotImplemented .MOV_IMM_RM

/-- MOV_IMM_REG (R232). Copies the immediate; no flag is written. -/
def execMovImmReg (w : Bool) (reg : RegName) (imm : Word) (s : State) : Out State :=
  simMove (twoOperandRecord .MOV_IMM_REG (1 + immBytes w)
    (.Register reg, .Immediate imm w false)) s

/-- MOV_MEM_ACC (R233): fails on every execution (42_execution_unit.md R200). -/
def execMovMemAcc (_w : Bool) (_addr : Word) (_s : State) : Out State := raiseNotImplemented .MOV_MEM_ACC

/-- MOV_ACC_MEM (R234): fails on every execution (42_execution_unit.md R200). -/
def execMovAccMem (_w : Bool) (_addr : Word) (_s : State) : Out State := raiseNotImplemented .MOV_ACC_MEM

/-- MOV_RM_SR (R235). A write of CS changes the CS cell alone (10_state.md R29). -/
def execMovRmSr (sr : SegReg) (rm : RMOperand) (s : State) : Out State :=
  simMove (twoOperandRecord .MOV_RM_SR (2 + rm.dispBytes)
    (.Register sr.name, rmLocation true false rm)) s

/-- MOV_SR_RM (R236). The destination is always 16 bits. -/
def execMovSrRm (sr : SegReg) (rm : RMOperand) (s : State) : Out State :=
  simMove (twoOperandRecord .MOV_SR_RM (2 + rm.dispBytes)
    (rmLocation true false rm, .Register sr.name)) s

/-- PUSH_RM (R237): fails on every execution (42_execution_unit.md R200). -/
def execPushRm (_rm : RMOperand) (_s : State) : Out State := raiseNotImplemented .PUSH_RM

/-- PUSH_REG (R238): fails on every execution (42_execution_unit.md R200). -/
def execPushReg (_reg : RegName) (_s : State) : Out State := raiseNotImplemented .PUSH_REG

/-- PUSH_SR (R239): fails on every execution (42_execution_unit.md R200). -/
def execPushSr (_sr : SegReg) (_s : State) : Out State := raiseNotImplemented .PUSH_SR

/-- POP_RM (R240): fails on every execution (42_execution_unit.md R200). -/
def execPopRm (_rm : RMOperand) (_s : State) : Out State := raiseNotImplemented .POP_RM

/-- POP_REG (R241): fails on every execution (42_execution_unit.md R200). -/
def execPopReg (_reg : RegName) (_s : State) : Out State := raiseNotImplemented .POP_REG

/-- POP_SR (R242): fails on every execution (42_execution_unit.md R200). -/
def execPopSr (_sr : SegReg) (_s : State) : Out State := raiseNotImplemented .POP_SR

/-- XCHG_RM_REG (R243): fails on every execution (42_execution_unit.md R200). -/
def execXchgRmReg (_w : Bool) (_reg : RegName) (_rm : RMOperand) (_s : State) : Out State :=
  raiseNotImplemented .XCHG_RM_REG

/-- XCHG_REG_ACC (R244): fails on every execution (42_execution_unit.md R200). -/
def execXchgRegAcc (_reg : RegName) (_s : State) : Out State := raiseNotImplemented .XCHG_REG_ACC

/-- IN_FIXED (R245): fails on every execution (42_execution_unit.md R200). -/
def execInFixed (_w : Bool) (_port : Byte) (_s : State) : Out State := raiseNotImplemented .IN_FIXED

/-- IN_VAR (R246): fails on every execution (42_execution_unit.md R200). -/
def execInVar (_w : Bool) (_s : State) : Out State := raiseNotImplemented .IN_VAR

/-- OUT_FIXED (R247): fails on every execution (42_execution_unit.md R200). -/
def execOutFixed (_w : Bool) (_port : Byte) (_s : State) : Out State := raiseNotImplemented .OUT_FIXED

/-- OUT_VAR (R248): fails on every execution (42_execution_unit.md R200). -/
def execOutVar (_w : Bool) (_s : State) : Out State := raiseNotImplemented .OUT_VAR

/-- XLAT (R249): fails on every execution (42_execution_unit.md R200). -/
def execXlat (_s : State) : Out State := raiseNotImplemented .XLAT

/-- LEA (R250): fails on every execution (42_execution_unit.md R200). -/
def execLea (_reg : RegName) (_rm : RMOperand) (_s : State) : Out State := raiseNotImplemented .LEA

/-- LDS (R251): fails on every execution (42_execution_unit.md R200). -/
def execLds (_reg : RegName) (_rm : RMOperand) (_s : State) : Out State := raiseNotImplemented .LDS

/-- LES (R252): fails on every execution (42_execution_unit.md R200). -/
def execLes (_reg : RegName) (_rm : RMOperand) (_s : State) : Out State := raiseNotImplemented .LES

/-- LAHF (R253): fails on every execution (42_execution_unit.md R200). -/
def execLahf (_s : State) : Out State := raiseNotImplemented .LAHF

/-- SAHF (R254): fails on every execution (42_execution_unit.md R200). -/
def execSahf (_s : State) : Out State := raiseNotImplemented .SAHF

/-- PUSHF (R255): fails on every execution (42_execution_unit.md R200). -/
def execPushf (_s : State) : Out State := raiseNotImplemented .PUSHF

/-- POPF (R256): fails on every execution (42_execution_unit.md R200). -/
def execPopf (_s : State) : Out State := raiseNotImplemented .POPF

end Sys2Proof.Machine
end

