-- ==== Sys2Proof/Machine/Logic.lean ====
section
/-! DEFINITION. The meanings of the logic, shift and rotate family (45_logic.md): none of its types executes (45_logic.md R390). -/

namespace Sys2Proof.Machine

/-- NOT (R370): fails on every execution (42_execution_unit.md R200). -/
def execNot (_w : Bool) (_rm : RMOperand) (_s : State) : Out State := raiseNotImplemented .NOT

/-- SHL (R371): fails on every execution (42_execution_unit.md R200). -/
def execShl (_v _w : Bool) (_rm : RMOperand) (_s : State) : Out State := raiseNotImplemented .SHL

/-- SHR (R372): fails on every execution (42_execution_unit.md R200). -/
def execShr (_v _w : Bool) (_rm : RMOperand) (_s : State) : Out State := raiseNotImplemented .SHR

/-- SAR (R373): fails on every execution (42_execution_unit.md R200). -/
def execSar (_v _w : Bool) (_rm : RMOperand) (_s : State) : Out State := raiseNotImplemented .SAR

/-- ROL (R374): fails on every execution (42_execution_unit.md R200). -/
def execRol (_v _w : Bool) (_rm : RMOperand) (_s : State) : Out State := raiseNotImplemented .ROL

/-- ROR (R375): fails on every execution (42_execution_unit.md R200). -/
def execRor (_v _w : Bool) (_rm : RMOperand) (_s : State) : Out State := raiseNotImplemented .ROR

/-- RCL (R376): fails on every execution (42_execution_unit.md R200). -/
def execRcl (_v _w : Bool) (_rm : RMOperand) (_s : State) : Out State := raiseNotImplemented .RCL

/-- RCR (R377): fails on every execution (42_execution_unit.md R200). -/
def execRcr (_v _w : Bool) (_rm : RMOperand) (_s : State) : Out State := raiseNotImplemented .RCR

/-- AND_RM_REG (R378): fails on every execution (42_execution_unit.md R200). -/
def execAndRmReg (_d _w : Bool) (_reg : RegName) (_rm : RMOperand) (_s : State) : Out State :=
  raiseNotImplemented .AND_RM_REG

/-- AND_IMM_RM (R379): fails on every execution (42_execution_unit.md R200). -/
def execAndImmRm (_s _w : Bool) (_rm : RMOperand) (_imm : Word) (_s : State) : Out State :=
  raiseNotImplemented .AND_IMM_RM

/-- AND_IMM_ACC (R380): fails on every execution (42_execution_unit.md R200). -/
def execAndImmAcc (_w : Bool) (_imm : Word) (_s : State) : Out State := raiseNotImplemented .AND_IMM_ACC

/-- TEST_RM_REG (R381): fails on every execution (42_execution_unit.md R200). -/
def execTestRmReg (_w : Bool) (_reg : RegName) (_rm : RMOperand) (_s : State) : Out State :=
  raiseNotImplemented .TEST_RM_REG

/-- TEST_IMM_RM (R382): fails on every execution (42_execution_unit.md R200). -/
def execTestImmRm (_w : Bool) (_rm : RMOperand) (_imm : Word) (_s : State) : Out State :=
  raiseNotImplemented .TEST_IMM_RM

/-- TEST_IMM_ACC (R383): fails on every execution (42_execution_unit.md R200). -/
def execTestImmAcc (_w : Bool) (_imm : Word) (_s : State) : Out State := raiseNotImplemented .TEST_IMM_ACC

/-- OR_RM_REG (R384): fails on every execution (42_execution_unit.md R200). -/
def execOrRmReg (_d _w : Bool) (_reg : RegName) (_rm : RMOperand) (_s : State) : Out State :=
  raiseNotImplemented .OR_RM_REG

/-- OR_IMM_RM (R385): fails on every execution (42_execution_unit.md R200). -/
def execOrImmRm (_s _w : Bool) (_rm : RMOperand) (_imm : Word) (_s : State) : Out State :=
  raiseNotImplemented .OR_IMM_RM

/-- OR_IMM_ACC (R386): fails on every execution (42_execution_unit.md R200). -/
def execOrImmAcc (_w : Bool) (_imm : Word) (_s : State) : Out State := raiseNotImplemented .OR_IMM_ACC

/-- XOR_RM_REG (R387): fails on every execution (42_execution_unit.md R200). -/
def execXorRmReg (_d _w : Bool) (_reg : RegName) (_rm : RMOperand) (_s : State) : Out State :=
  raiseNotImplemented .XOR_RM_REG

/-- XOR_IMM_RM (R388): fails on every execution (42_execution_unit.md R200). -/
def execXorImmRm (_s _w : Bool) (_rm : RMOperand) (_imm : Word) (_s : State) : Out State :=
  raiseNotImplemented .XOR_IMM_RM

/-- XOR_IMM_ACC (R389): fails on every execution (42_execution_unit.md R200). -/
def execXorImmAcc (_w : Bool) (_imm : Word) (_s : State) : Out State := raiseNotImplemented .XOR_IMM_ACC

end Sys2Proof.Machine
end

