-- ==== Sys2Proof/Machine/ProcessorControl.lean ====
section
/-! DEFINITION. The meanings of the processor control family (48_processor_control.md): none of its types executes (48_processor_control.md; 42_execution_unit.md R199);
the two refused forms never decode. -/

namespace Sys2Proof.Machine

/-- CLC (R480): fails on every execution (42_execution_unit.md R200). -/
def execClc (_s : State) : Out State := raiseNotImplemented .CLC

/-- CMC (R481): fails on every execution (42_execution_unit.md R200). -/
def execCmc (_s : State) : Out State := raiseNotImplemented .CMC

/-- STC (R482): fails on every execution (42_execution_unit.md R200). -/
def execStc (_s : State) : Out State := raiseNotImplemented .STC

/-- CLD (R483): fails on every execution (42_execution_unit.md R200). -/
def execCld (_s : State) : Out State := raiseNotImplemented .CLD

/-- STD (R484): fails on every execution (42_execution_unit.md R200). -/
def execStd (_s : State) : Out State := raiseNotImplemented .STD

/-- CLI (R485): fails on every execution (42_execution_unit.md R200). -/
def execCli (_s : State) : Out State := raiseNotImplemented .CLI

/-- STI (R486): fails on every execution (42_execution_unit.md R200). -/
def execSti (_s : State) : Out State := raiseNotImplemented .STI

/-- HLT (R487): fails on every execution (42_execution_unit.md R200). -/
def execHlt (_s : State) : Out State := raiseNotImplemented .HLT

/-- WAIT (R488): fails on every execution (42_execution_unit.md R200). -/
def execWait (_s : State) : Out State := raiseNotImplemented .WAIT

/-- LOCK (R489): fails on every execution (42_execution_unit.md R200). -/
def execLock (_s : State) : Out State := raiseNotImplemented .LOCK

/-- ESC (R490; 30_encoding.md R84). Refused at decode: no record of it reaches the execution unit (log 8). -/
def execEsc (x : BitVec 3) (s : State) : Out State :=
  raiseDecode .NotDispatched s.dec.cursor (0xD8 ||| x.setWidth 8) none

/-- SEGMENT (R491; 30_encoding.md R84). Refused at decode: no record of it reaches the execution unit (log 8). -/
def execSegment (sr : SegReg) (s : State) : Out State :=
  raiseDecode .NotDispatched s.dec.cursor (0x26 ||| (sr.code.setWidth 8 <<< 3)) none

end Sys2Proof.Machine
end

