-- ==== Sys2Proof/Machine/StringOps.lean ====
section
/-! DEFINITION. The meanings of the string family (46_string.md): none of its types executes (46_string.md R417; 42_execution_unit.md R199). -/

namespace Sys2Proof.Machine

/-- REP (R410): fails on every execution (42_execution_unit.md R200). -/
def execRep (_s : State) : Out State := raiseNotImplemented .REP

/-- REPNE (R411): fails on every execution (42_execution_unit.md R200). -/
def execRepne (_s : State) : Out State := raiseNotImplemented .REPNE

/-- MOVS (R412): fails on every execution (42_execution_unit.md R200). -/
def execMovs (_w : Bool) (_s : State) : Out State := raiseNotImplemented .MOVS

/-- CMPS (R413): fails on every execution (42_execution_unit.md R200). -/
def execCmps (_w : Bool) (_s : State) : Out State := raiseNotImplemented .CMPS

/-- SCAS (R414): fails on every execution (42_execution_unit.md R200). -/
def execScas (_w : Bool) (_s : State) : Out State := raiseNotImplemented .SCAS

/-- LODS (R415): fails on every execution (42_execution_unit.md R200). -/
def execLods (_w : Bool) (_s : State) : Out State := raiseNotImplemented .LODS

/-- STOS (R416): fails on every execution (42_execution_unit.md R200). -/
def execStos (_w : Bool) (_s : State) : Out State := raiseNotImplemented .STOS

end Sys2Proof.Machine
end

