-- ==== Sys2Proof/Machine/Dispatch.lean ====
section
/-! DEFINITION. What each instruction does: one arm per constructor of Instr, each a direct call of its meaning. -/

namespace Sys2Proof.Machine

def exec (i : Instr) (s : State) : Host.Outcome State Fault Refusal :=
  match i with
  -- data transfer (43_data_transfer.md)
  | .movRmReg d w reg rm => Sys2Proof.Machine.execMovRmReg d w reg rm s
  | .movImmRm w rm imm => Sys2Proof.Machine.execMovImmRm w rm imm s
  | .movImmReg w reg imm => Sys2Proof.Machine.execMovImmReg w reg imm s
  | .movMemAcc w addr => Sys2Proof.Machine.execMovMemAcc w addr s
  | .movAccMem w addr => Sys2Proof.Machine.execMovAccMem w addr s
  | .movRmSr sr rm => Sys2Proof.Machine.execMovRmSr sr rm s
  | .movSrRm sr rm => Sys2Proof.Machine.execMovSrRm sr rm s
  | .pushRm rm => Sys2Proof.Machine.execPushRm rm s
  | .pushReg reg => Sys2Proof.Machine.execPushReg reg s
  | .pushSr sr => Sys2Proof.Machine.execPushSr sr s
  | .popRm rm => Sys2Proof.Machine.execPopRm rm s
  | .popReg reg => Sys2Proof.Machine.execPopReg reg s
  | .popSr sr => Sys2Proof.Machine.execPopSr sr s
  | .xchgRmReg w reg rm => Sys2Proof.Machine.execXchgRmReg w reg rm s
  | .xchgRegAcc reg => Sys2Proof.Machine.execXchgRegAcc reg s
  | .inFixed w port => Sys2Proof.Machine.execInFixed w port s
  | .inVar w => Sys2Proof.Machine.execInVar w s
  | .outFixed w port => Sys2Proof.Machine.execOutFixed w port s
  | .outVar w => Sys2Proof.Machine.execOutVar w s
  | .xlat => Sys2Proof.Machine.execXlat s
  | .lea reg rm => Sys2Proof.Machine.execLea reg rm s
  | .lds reg rm => Sys2Proof.Machine.execLds reg rm s
  | .les reg rm => Sys2Proof.Machine.execLes reg rm s
  | .lahf => Sys2Proof.Machine.execLahf s
  | .sahf => Sys2Proof.Machine.execSahf s
  | .pushf => Sys2Proof.Machine.execPushf s
  | .popf => Sys2Proof.Machine.execPopf s
  -- arithmetic (44_arithmetic.md)
  | .addRmReg d w reg rm => Sys2Proof.Machine.execAddRmReg d w reg rm s
  | .addImmRm se w rm imm => Sys2Proof.Machine.execAddImmRm se w rm imm s
  | .addImmAcc w imm => Sys2Proof.Machine.execAddImmAcc w imm s
  | .adcRmReg d w reg rm => Sys2Proof.Machine.execAdcRmReg d w reg rm s
  | .adcImmRm se w rm imm => Sys2Proof.Machine.execAdcImmRm se w rm imm s
  | .adcImmAcc w imm => Sys2Proof.Machine.execAdcImmAcc w imm s
  | .incRm w rm => Sys2Proof.Machine.execIncRm w rm s
  | .incReg reg => Sys2Proof.Machine.execIncReg reg s
  | .aaa => Sys2Proof.Machine.execAaa s
  | .daa => Sys2Proof.Machine.execDaa s
  | .subRmReg d w reg rm => Sys2Proof.Machine.execSubRmReg d w reg rm s
  | .subImmRm se w rm imm => Sys2Proof.Machine.execSubImmRm se w rm imm s
  | .subImmAcc w imm => Sys2Proof.Machine.execSubImmAcc w imm s
  | .sbbRmReg d w reg rm => Sys2Proof.Machine.execSbbRmReg d w reg rm s
  | .sbbImmRm se w rm imm => Sys2Proof.Machine.execSbbImmRm se w rm imm s
  | .sbbImmAcc w imm => Sys2Proof.Machine.execSbbImmAcc w imm s
  | .decRm w rm => Sys2Proof.Machine.execDecRm w rm s
  | .decReg reg => Sys2Proof.Machine.execDecReg reg s
  | .neg w rm => Sys2Proof.Machine.execNeg w rm s
  | .cmpRmReg d w reg rm => Sys2Proof.Machine.execCmpRmReg d w reg rm s
  | .cmpImmRm se w rm imm => Sys2Proof.Machine.execCmpImmRm se w rm imm s
  | .cmpImmAcc w imm => Sys2Proof.Machine.execCmpImmAcc w imm s
  | .aas => Sys2Proof.Machine.execAas s
  | .das => Sys2Proof.Machine.execDas s
  | .mul w rm => Sys2Proof.Machine.execMul w rm s
  | .imul w rm => Sys2Proof.Machine.execImul w rm s
  | .aam => Sys2Proof.Machine.execAam s
  | .div w rm => Sys2Proof.Machine.execDiv w rm s
  | .idiv w rm => Sys2Proof.Machine.execIdiv w rm s
  | .aad => Sys2Proof.Machine.execAad s
  | .cbw => Sys2Proof.Machine.execCbw s
  | .cwd => Sys2Proof.Machine.execCwd s
  | .aamBase imm => Sys2Proof.Machine.execAamBase imm s
  | .aadBase imm => Sys2Proof.Machine.execAadBase imm s
  -- logic, shift and rotate (45_logic.md)
  | .not w rm => Sys2Proof.Machine.execNot w rm s
  | .shl v w rm => Sys2Proof.Machine.execShl v w rm s
  | .shr v w rm => Sys2Proof.Machine.execShr v w rm s
  | .sar v w rm => Sys2Proof.Machine.execSar v w rm s
  | .rol v w rm => Sys2Proof.Machine.execRol v w rm s
  | .ror v w rm => Sys2Proof.Machine.execRor v w rm s
  | .rcl v w rm => Sys2Proof.Machine.execRcl v w rm s
  | .rcr v w rm => Sys2Proof.Machine.execRcr v w rm s
  | .andRmReg d w reg rm => Sys2Proof.Machine.execAndRmReg d w reg rm s
  | .andImmRm se w rm imm => Sys2Proof.Machine.execAndImmRm se w rm imm s
  | .andImmAcc w imm => Sys2Proof.Machine.execAndImmAcc w imm s
  | .testRmReg w reg rm => Sys2Proof.Machine.execTestRmReg w reg rm s
  | .testImmRm w rm imm => Sys2Proof.Machine.execTestImmRm w rm imm s
  | .testImmAcc w imm => Sys2Proof.Machine.execTestImmAcc w imm s
  | .orRmReg d w reg rm => Sys2Proof.Machine.execOrRmReg d w reg rm s
  | .orImmRm se w rm imm => Sys2Proof.Machine.execOrImmRm se w rm imm s
  | .orImmAcc w imm => Sys2Proof.Machine.execOrImmAcc w imm s
  | .xorRmReg d w reg rm => Sys2Proof.Machine.execXorRmReg d w reg rm s
  | .xorImmRm se w rm imm => Sys2Proof.Machine.execXorImmRm se w rm imm s
  | .xorImmAcc w imm => Sys2Proof.Machine.execXorImmAcc w imm s
  -- string (46_string.md)
  | .rep => Sys2Proof.Machine.execRep s
  | .repne => Sys2Proof.Machine.execRepne s
  | .movs w => Sys2Proof.Machine.execMovs w s
  | .cmps w => Sys2Proof.Machine.execCmps w s
  | .scas w => Sys2Proof.Machine.execScas w s
  | .lods w => Sys2Proof.Machine.execLods w s
  | .stos w => Sys2Proof.Machine.execStos w s
  -- control transfer (47_control_transfer.md)
  | .callInd rm => Sys2Proof.Machine.execCallInd rm s
  | .callFarInd rm => Sys2Proof.Machine.execCallFarInd rm s
  | .jmpInd rm => Sys2Proof.Machine.execJmpInd rm s
  | .jmpFarInd rm => Sys2Proof.Machine.execJmpFarInd rm s
  | .ret => Sys2Proof.Machine.execRet s
  | .retImm imm => Sys2Proof.Machine.execRetImm imm s
  | .retf => Sys2Proof.Machine.execRetf s
  | .retfImm imm => Sys2Proof.Machine.execRetfImm imm s
  | .je disp => Sys2Proof.Machine.execJe disp s
  | .jl disp => Sys2Proof.Machine.execJl disp s
  | .jle disp => Sys2Proof.Machine.execJle disp s
  | .jb disp => Sys2Proof.Machine.execJb disp s
  | .jbe disp => Sys2Proof.Machine.execJbe disp s
  | .jp disp => Sys2Proof.Machine.execJp disp s
  | .jo disp => Sys2Proof.Machine.execJo disp s
  | .js disp => Sys2Proof.Machine.execJs disp s
  | .jne disp => Sys2Proof.Machine.execJne disp s
  | .jnl disp => Sys2Proof.Machine.execJnl disp s
  | .jnle disp => Sys2Proof.Machine.execJnle disp s
  | .jnb disp => Sys2Proof.Machine.execJnb disp s
  | .jnbe disp => Sys2Proof.Machine.execJnbe disp s
  | .jnp disp => Sys2Proof.Machine.execJnp disp s
  | .jno disp => Sys2Proof.Machine.execJno disp s
  | .jns disp => Sys2Proof.Machine.execJns disp s
  | .loop disp => Sys2Proof.Machine.execLoop disp s
  | .loopz disp => Sys2Proof.Machine.execLoopz disp s
  | .loopnz disp => Sys2Proof.Machine.execLoopnz disp s
  | .jcxz disp => Sys2Proof.Machine.execJcxz disp s
  | .int imm => Sys2Proof.Machine.execInt imm s
  | .int3 => Sys2Proof.Machine.execInt3 s
  | .into => Sys2Proof.Machine.execInto s
  | .iret => Sys2Proof.Machine.execIret s
  | .callNear => Sys2Proof.Machine.execCallNear s
  | .callFar => Sys2Proof.Machine.execCallFar s
  | .jmpNear => Sys2Proof.Machine.execJmpNear s
  | .jmpShort => Sys2Proof.Machine.execJmpShort s
  | .jmpFar => Sys2Proof.Machine.execJmpFar s
  -- processor control (48_processor_control.md)
  | .clc => Sys2Proof.Machine.execClc s
  | .cmc => Sys2Proof.Machine.execCmc s
  | .stc => Sys2Proof.Machine.execStc s
  | .cld => Sys2Proof.Machine.execCld s
  | .std => Sys2Proof.Machine.execStd s
  | .cli => Sys2Proof.Machine.execCli s
  | .sti => Sys2Proof.Machine.execSti s
  | .hlt => Sys2Proof.Machine.execHlt s
  | .wait => Sys2Proof.Machine.execWait s
  | .lock => Sys2Proof.Machine.execLock s
  | .esc x => Sys2Proof.Machine.execEsc x s
  | .segment sr => Sys2Proof.Machine.execSegment sr s

end Sys2Proof.Machine
end

