-- ==== Sys2Proof/Machine/Step.lean ====
section
/-! DEFINITION. One step of the machine (00_scope.md R3; 40_decoder.md R140; 42_execution_unit.md R198, R216; log 3).

The run executes the records of the decoded list in order, each once. Where the list already holds the next record, the
step executes it. Where it does not, the decoder first takes one instruction from the stream at its cursor: the step
decodes it, executes it and emits its record. `ip` does not select the instruction (10_state.md R32). -/

namespace Sys2Proof.Machine

/-- The state after an executed instruction whose record the decoder emits. -/
def State.emitted (t : State) (i : Instr) (p : Nat) : State :=
  match i.record p with
  | some I => { t with dec := t.dec.emit I, pos := t.pos + 1 }
  | none => t

/-- A step that finds no decoded record waiting: one instruction from the stream at the cursor. -/
def stepDecode (s : State) : Out State :=
  match decode (s.stream.drop s.dec.cursor) with
  | .error .endOfStream => .next { s with dec := { s.dec with status := .Done } }
  | .error (.failure reason b1 b2) => raiseDecode reason s.dec.cursor b1 b2
  | .ok (i, _) => Out.andThen (exec i s) fun t => .next (t.emitted i s.dec.cursor)

/-- One step. When the pass is over and no record waits, the run has ended and the state stays as it is (log 4). -/
def step (s : State) : Host.Outcome State Fault Refusal :=
  match s.dec.seq[s.pos]? with
  | some I => (simulateInstruction I s).andThen fun t => .next { t with pos := t.pos + 1 }
  | none =>
    match s.dec.status with
    | .Done => .next s
    | .Failed f => .refused (.decodeFailure f)
    | .Running => stepDecode s

/-- `s` with an opcode-table word placed at the decoder's cursor, so that the next step decodes and executes it: the
stream from the cursor on is the word's bytes, no decoded record waits, and the pass runs (log 5, log 7). -/
def State.withFetchWord (s : State) (nbits w : Nat) : State :=
  { s with
    stream := s.stream.take s.dec.cursor ++ List.replicate (s.dec.cursor - s.stream.length) 0 ++ rowBytes nbits w
    pos := s.dec.seq.length
    dec := { s.dec with status := .Running } }

end Sys2Proof.Machine
end

