-- ==== Sys2Proof/Machine/Render.lean ====
section
/-! DEFINITION. The assembly renderer: the block's assembler syntax, a pure function of the decoder's output
(41_renderer.md R170 to R180). It is no part of the step. -/

namespace Sys2Proof.Machine

/-- `dec(v)`: signed decimal (41_renderer.md R176). -/
def decText (v : Int) : String :=
  if v < 0 then "-" ++ toString (-v).toNat else toString v.toNat

/-- The lowercase register names (41_renderer.md R176). -/
def regText : RegName → String
  | .AL => "al" | .CL => "cl" | .DL => "dl" | .BL => "bl" | .AH => "ah" | .CH => "ch" | .DH => "dh" | .BH => "bh"
  | .AX => "ax" | .CX => "cx" | .DX => "dx" | .BX => "bx" | .SP => "sp" | .BP => "bp" | .SI => "si" | .DI => "di"
  | .ES => "es" | .CS => "cs" | .SS => "ss" | .DS => "ds"

/-- The size prefix of a memory or immediate operand (41_renderer.md R175). -/
def sizeText (wide suppress : Bool) : String :=
  if suppress then "" else if wide then "word " else "byte "

/-- The base part of an address text (41_renderer.md R177). -/
def baseText : EATag → String
  | .BX_SI | .BX_SI_D8 | .BX_SI_D16 => "bx + si"
  | .BX_DI | .BX_DI_D8 | .BX_DI_D16 => "bx + di"
  | .BP_SI | .BP_SI_D8 | .BP_SI_D16 => "bp + si"
  | .BP_DI | .BP_DI_D8 | .BP_DI_D16 => "bp + di"
  | .SI | .SI_D8 | .SI_D16 => "si"
  | .DI | .DI_D8 | .DI_D16 => "di"
  | .BP_D8 | .BP_D16 => "bp"
  | .BX | .BX_D8 | .BX_D16 => "bx"
  | .DIRECT => ""

/-- `ea(t, d)`: a direct address is unsigned, a displacement variant writes its term even when it is 0
(41_renderer.md R177). -/
def eaText (ea : AddressCalc) : String :=
  match ea.tag with
  | .DIRECT => decText ea.disp.toNat
  | .BX_SI | .BX_DI | .BP_SI | .BP_DI | .SI | .DI | .BX => baseText ea.tag
  | .BX_SI_D8 | .BX_DI_D8 | .BP_SI_D8 | .BP_DI_D8 | .SI_D8 | .DI_D8 | .BP_D8 | .BX_D8
  | .BX_SI_D16 | .BX_DI_D16 | .BP_SI_D16 | .BP_DI_D16 | .SI_D16 | .DI_D16 | .BP_D16 | .BX_D16 =>
    baseText ea.tag ++ (if 0 ≤ ea.disp.toInt then " + " ++ decText ea.disp.toInt else " - " ++ decText (-ea.disp.toInt))

/-- The symbolic name of a label (41_renderer.md R172, R178). -/
def labelText (t : Int) : String := "label_" ++ decText t

/-- `op(loc)` (41_renderer.md R176 to R178). -/
def operandText : DataLocation → String
  | .Register r => regText r
  | .Memory ea wide suppress => sizeText wide suppress ++ "[" ++ eaText ea ++ "]"
  | .Immediate v wide suppress => sizeText wide suppress ++ decText v.toInt
  | .JumpLabel t => labelText t

/-- `mnem(I)`: the row's mnemonic, with the width suffix of the string operations (41_renderer.md R173, R174). -/
def mnemonicText (I : Record) : String :=
  match I.type with
  | .MOVS | .CMPS | .SCAS | .LODS | .STOS => I.type.mnemonic ++ (if I.wide then "w" else "b")
  | _ => I.type.mnemonic

/-- `text(I)` (41_renderer.md R173). -/
def recordText (I : Record) : String :=
  match I.dst, I.src with
  | none, _ => mnemonicText I
  | some dst, none => mnemonicText I ++ " " ++ operandText dst
  | some dst, some src => mnemonicText I ++ " " ++ operandText dst ++ ", " ++ operandText src

/-- The lines after the directive: at most one label line after each instruction's line (41_renderer.md R172). -/
def renderLines (offset : Int) (labels : List Int) (seq : List Record) : List String :=
  match seq with
  | [] => []
  | I :: rest =>
    match labels with
    | l :: more =>
      if l ≤ offset + I.size then
        recordText I :: (labelText l ++ ":") :: renderLines (offset + I.size) more rest
      else recordText I :: renderLines (offset + I.size) labels rest
    | [] => recordText I :: renderLines (offset + I.size) [] rest

/-- `Render(seq, labels)`, line by line (41_renderer.md R170 to R172). -/
def render (seq : List Record) (labels : List Int) : List String := "bits 16" :: renderLines 0 labels seq

/-- The output text: every line ends with a line feed (41_renderer.md R170). -/
def renderText (seq : List Record) (labels : List Int) : String :=
  String.join ((render seq labels).map fun line => line ++ "\n")

end Sys2Proof.Machine
end

