-- ==== Sys2Proof/Safety.lean ====
section
/-! DEFINITION. What counts as a safe state and a successful run: the invariants of the machine and the launch premises
(40_decoder.md R150, R152; 42_execution_unit.md R196; 70_reset_and_hazards.md R556, R557). -/

namespace Sys2Proof.Machine

/-- `FlagsClean(ctx)`: CF, AF and OF are false (42_execution_unit.md R196; 70_reset_and_hazards.md R556). -/
abbrev FlagsClean (c : Context) : Prop := c.F.CF = false ∧ c.F.AF = false ∧ c.F.OF = false

/-- The context that a run starts from: the new context, changed by SetRegister alone
(70_reset_and_hazards.md R550, R556). -/
abbrev FreshContext (c : Context) : Prop := c.F = Flags.none ∧ c.ip = 0 ∧ c.mem = []

/-- `DecodeOk(B)` (70_reset_and_hazards.md R556). -/
abbrev DecodeOk (stream : List Byte) : Prop := (decodePass stream).status = .Done

/-- `NoFailureRecorded`: the run returns `failure = none` (70_reset_and_hazards.md R556; 60_exceptions.md R516). -/
abbrev NoFailureRecorded (r : RunResult) : Prop := r.succeeded = true

/-- The jump targets of the J8 records of a list, in order (40_decoder.md R150). -/
def jumpTargets (seq : List Record) : List Int :=
  seq.filterMap fun I =>
    match I.type.format, I.dst with
    | .J8, some (.JumpLabel t) => some t
    | _, _ => none

/-- The sizes of a list of records, summed. -/
def totalSize (seq : List Record) : Nat := (seq.map (·.size)).sum

/-- What holds of the decoder at every point of a pass: the labels are strictly ascending and are exactly the jump
targets of the records (40_decoder.md R150), and the cursor is the sum of the records' sizes (40_decoder.md R152). -/
structure Decoder.Inv (d : Decoder) : Prop where
  ascending : d.labels.Pairwise (· < ·)
  targets : ∀ t, t ∈ d.labels ↔ t ∈ jumpTargets d.seq
  cursor : d.cursor = totalSize d.seq

/-- Every record of the list was decoded from the stream at the sum of the sizes before it (40_decoder.md R140, R152). -/
abbrev DecodedFrom (stream : List Byte) (seq : List Record) : Prop :=
  ∀ k I, seq[k]? = some I → ∃ i rest, decode (stream.drop (totalSize (seq.take k))) = .ok (i, rest) ∧
    i.record (totalSize (seq.take k)) = some I

/-- What holds of the machine between steps: the memory keeps its canonical form, CF, AF and OF are false
(42_execution_unit.md R196), the decoder's invariant holds, its records come from the stream, its cursor stays inside the
stream, at its end once the pass is done (70_reset_and_hazards.md R557), and the run has not passed the decoded list. -/
structure State.Inv (s : State) : Prop where
  memory : s.ctx.mem.wf s.params.memSize
  flags : FlagsClean s.ctx
  decoder : s.dec.Inv
  decoded : DecodedFrom s.stream s.dec.seq
  inside : s.dec.cursor ≤ s.stream.length
  ended : s.dec.status = .Done → s.dec.cursor = s.stream.length
  position : s.pos ≤ s.dec.seq.length

/-- The run has ended after its last record (70_reset_and_hazards.md R558): every record of the list has executed, and
the pass adds none, whether it is done or has failed. -/
abbrev State.Ended (s : State) : Prop := s.dec.status ≠ .Running ∧ s.pos = s.dec.seq.length

/-! ## What a claim about an encoding or a record says -/

/-- The first bytes for which the classifier inspects b2: `needB2` (40_decoder.md R140; 30_encoding.md R86). -/
def inspectsB2 : List Byte :=
  [0x80, 0x81, 0x82, 0x83, 0x8C, 0x8E, 0x8F, 0xC6, 0xC7, 0xD0, 0xD1, 0xD2, 0xD3, 0xD4, 0xD5, 0xF6, 0xF7, 0xFE, 0xFF]

/-- The operand-less types with a w bit (40_decoder.md R133; 30_encoding.md R72). -/
def stringOperations : List InstrType := [.MOVS, .CMPS, .SCAS, .LODS, .STOS]

/-- The effective width W of a type with the first byte b1, true for 16 bits (40_decoder.md R129): forced wide, 1 for R and
S, the w bit where the format has one (30_encoding.md R72), else 0. Of J8, I8 and I16, which have an operand and no w bit,
the rule names no W and nothing reads it (log 26). -/
def effectiveWidth (t : InstrType) (b1 : Byte) : Bool :=
  if t ∈ [InstrType.LEA, .LDS, .LES, .MOV_RM_SR, .MOV_SR_RM, .POP_RM, .PUSH_RM, .CALL_IND, .CALL_FAR_IND, .JMP_IND,
      .JMP_FAR_IND] then true
  else
    match t.format with
    | .R | .S => true
    | .RI => b1.getLsbD 3
    | .P | .AM | .AI | .MR | .MRI | .M | .MV | .MS => b1.getLsbD 0
    | .O => decide (t ∈ stringOperations) && b1.getLsbD 0
    | .J8 | .I8 | .I16 | .AA => false

/-- The types whose memory operand is written without a size prefix (40_decoder.md R154). -/
def suppressesMemory : List InstrType := [.LEA, .LDS, .LES, .CALL_FAR_IND, .JMP_FAR_IND]

/-- The byte at offset `q` of an instruction's bytes; no statement reads past the instruction's end. -/
def byteOf (bs : List Byte) (q : Nat) : Byte := bs.getD q 0

/-- The value at offset `q`: two bytes, the low one first, or one sign-extended byte (30_encoding.md R82, R83). -/
def valueOf (bs : List Byte) (q : Nat) (wide : Bool) : Word :=
  if wide then byteOf bs (q + 1) ++ byteOf bs q else (byteOf bs q).signExtend 16

/-- The address-calculation tag of the byte b2 (30_encoding.md R81; 40_decoder.md R128). -/
def tagOf (bs : List Byte) : EATag := eaTag ((byteOf bs 1).extractLsb' 6 2) ((byteOf bs 1).extractLsb' 0 3)

/-- The number of displacement bytes after b2 (30_encoding.md R80, R81). -/
def dispBytesOf (bs : List Byte) : Nat := if (byteOf bs 1).extractLsb' 6 2 = 3 then 0 else (tagOf bs).dispBytes

/-- The displacement after b2: 0, one sign-extended byte or two bytes (30_encoding.md R82). -/
def dispOf (bs : List Byte) : Word :=
  match dispBytesOf bs with
  | 0 => 0
  | 1 => valueOf bs 2 false
  | _ => valueOf bs 2 true

/-- `rmOperand`: the rm operand of effective width `w` in the instruction's bytes (40_decoder.md R130). -/
def rmOf (bs : List Byte) (w suppress : Bool) : DataLocation :=
  if (byteOf bs 1).extractLsb' 6 2 = 3 then .Register (regName ((byteOf bs 1).extractLsb' 0 3) w)
  else .Memory ⟨tagOf bs, dispOf bs⟩ w suppress

/-- The register of effective width `w` in the reg field of b2 (40_decoder.md R141). -/
def regOf (bs : List Byte) (w : Bool) : DataLocation := .Register (regName ((byteOf bs 1).extractLsb' 3 3) w)

/-- The segment register in b2[4:3] (40_decoder.md R146). -/
def sregOf (bs : List Byte) : DataLocation := .Register (sregName ((byteOf bs 1).extractLsb' 3 2)).name

/-- The register in b1[2:0] of the formats R and RI (40_decoder.md R131, R136). -/
def lowRegOf (bs : List Byte) (w : Bool) : DataLocation := .Register (regName ((byteOf bs 0).extractLsb' 0 3) w)

/-- The accumulator of width `w` (40_decoder.md R127). -/
def accOf (w : Bool) : DataLocation := .Register (if w then .AX else .AL)

/-- `immWide` of the format MRI: W is 1 and no s bit shortens the immediate (40_decoder.md R143; 30_encoding.md R75). -/
def immWideOf (bs : List Byte) (w : Bool) : Bool :=
  w && !(decide (byteOf bs 0 ∈ ([0x80, 0x81, 0x82, 0x83] : List Byte)) && (byteOf bs 0).getLsbD 1)

/-- The destination and the source of a type, read from the bytes of an instruction at stream offset `p`, format by format
(40_decoder.md R131 to R139, R141 to R147, R153). -/
def operandsFrom (t : InstrType) (p : Nat) (bs : List Byte) : Option DataLocation × Option DataLocation :=
  let w := effectiveWidth t (byteOf bs 0)
  match t.format with
  | .O | .AA => (none, none)
  | .R => if t = .XCHG_REG_ACC then (some (.Register .AX), some (lowRegOf bs w)) else (some (lowRegOf bs w), none)
  | .S => (some (.Register (sregName ((byteOf bs 0).extractLsb' 3 2)).name), none)
  | .J8 => (some (.JumpLabel ((p : Int) + 2 + (byteOf bs 1).toInt)), none)
  | .I8 => (some (.Immediate (valueOf bs 1 false) false true), none)
  | .I16 => (some (.Immediate (valueOf bs 1 true) true true), none)
  | .RI => (some (lowRegOf bs w), some (.Immediate (valueOf bs 1 w) w false))
  | .AI => (some (accOf w), some (.Immediate (valueOf bs 1 w) w false))
  | .P =>
    let port : DataLocation :=
      if t ∈ [InstrType.IN_VAR, .OUT_VAR] then .Register .DX else .Immediate (valueOf bs 1 false) false true
    if t ∈ [InstrType.IN_FIXED, .IN_VAR] then (some (accOf w), some port) else (some port, some (accOf w))
  | .AM =>
    let m : DataLocation := .Memory ⟨.DIRECT, valueOf bs 1 true⟩ w false
    if t = .MOV_MEM_ACC then (some (accOf w), some m) else (some m, some (accOf w))
  | .MR =>
    let e := rmOf bs w (decide (t ∈ suppressesMemory))
    if t ∈ [InstrType.LEA, .LDS, .LES, .XCHG_RM_REG] ∨ (byteOf bs 0).getLsbD 1 = true then
      (some (regOf bs w), some e)
    else (some e, some (regOf bs w))
  | .MS => if t = .MOV_RM_SR then (some (sregOf bs), some (rmOf bs w false)) else (some (rmOf bs w false), some (sregOf bs))
  | .MRI =>
    (some (rmOf bs w false),
      some (.Immediate (valueOf bs (2 + dispBytesOf bs) (immWideOf bs w)) (immWideOf bs w) false))
  | .M => (some (rmOf bs w (decide (t ∈ suppressesMemory))), none)
  | .MV =>
    (some (rmOf bs w false), some (if (byteOf bs 0).getLsbD 1 then .Register .CL else .Immediate 1 false true))

/-- What an rm operand of effective width `w` can be: a general register of that width, or memory with the width flag,
the suppress flag and a displacement of the tag's size (40_decoder.md R124, R130). -/
def DataLocation.IsRM (w suppress : Bool) (loc : DataLocation) : Prop :=
  (∃ r, wfReg w r = true ∧ loc = .Register r) ∨
    ∃ ea, wfDisp ea.tag.dispBytes ea.disp = true ∧ loc = .Memory ea w suppress

/-! ## What a claim about an instruction says -/

/-- The state with ip replaced. -/
def State.withIp (s : State) (v : Word) : State := { s with ctx := { s.ctx with ip := v } }

/-- The state with the data memory replaced. -/
def State.withMem (s : State) (m : Memory) : State := { s with ctx := { s.ctx with mem := m } }

/-- No register changes. -/
abbrev RegistersKept (s t : State) : Prop := ∀ q, readReg t.ctx.regs q = readReg s.ctx.regs q

/-- No register changes but `r` and the names that share a byte with it (10_state.md R25, R26). -/
abbrev RegistersKeptBut (r : RegName) (s t : State) : Prop :=
  ∀ q, sharesByte r q = false → readReg t.ctx.regs q = readReg s.ctx.regs q

/-- What an executed instruction of `n` bytes leaves alone beside registers and flags, and where ip goes: memory, byte by
byte and as a whole, the decode pass, the run's position, the stream and the parameters (42_execution_unit.md R197, R198;
10_state.md R33). -/
structure Frame (n : Nat) (s t : State) : Prop where
  ip : t.ctx.ip = if s.params.ipAdvances then s.ctx.ip + BitVec.ofNat 16 n else s.ctx.ip
  bytes : ∀ a, t.ctx.mem.byteAt a = s.ctx.mem.byteAt a
  mem : t.ctx.mem = s.ctx.mem
  dec : t.dec = s.dec
  pos : t.pos = s.pos
  stream : t.stream = s.stream
  params : t.params = s.params

/-- Both runs complete with related states, or both stop for one reason. -/
def SameOutcome (R : State → State → Prop) : Out State → Out State → Prop
  | .next t, .next t' => R t t'
  | .fault f, .fault f' => f = f'
  | .refused r, .refused r' => r = r'
  | _, _ => False

end Sys2Proof.Machine
end

