-- ==== Sys2Proof/Certificates/Slice0/Obligations.lean ====
section
/-! DEFINITION. The statements for the provers. Each docstring says which rules of the spec a statement rests on. -/

section

open Sys2Proof Sys2Proof.Machine

/-- Words written out from the spec's encodings decode to the instructions they stand for (30_encoding.md R91;
95_test_vectors.md). -/
def Obligations.SpecWordsDecode : Prop :=
  decode [0xB8, 0x05, 0x00] = .ok (.movImmReg true .AX 5, []) ∧
  decode [0x8E, 0xD8] = .ok (.movRmSr .DS (.reg .AX), []) ∧
  decode [0x01, 0xD8] = .ok (.addRmReg false true .BX (.reg .AX), []) ∧
  decode [0x83, 0xC3, 0xFC] = .ok (.addImmRm true true (.reg .BX) 0xFFFC, []) ∧
  decode [0x80, 0xE0, 0x0F] = .ok (.andImmRm false false (.reg .AL) 15, []) ∧
  decode [0xD3, 0xE8] = .ok (.shr true true (.reg .AX), []) ∧
  decode [0xA5] = .ok (.movs true, []) ∧
  decode [0x74, 0x05] = .ok (.je 5, []) ∧
  decode [0xC2, 0x04, 0x00] = .ok (.retImm 4, []) ∧
  decode [0xFF, 0x1F] = .ok (.callFarInd (.mem ⟨.BX, 0⟩), []) ∧
  decode [0xF9] = .ok (.stc, []) ∧
  decode [0x8B, 0x1E, 0x00, 0x00] = .ok (.movRmReg true true .BX (.mem ⟨.DIRECT, 0⟩), [])

/-- Decoding the encoding of a well-formed instruction gives the instruction back, whatever bytes follow (30_encoding.md
R71, R72, R78 to R83, R91; 40_decoder.md R127 to R147). -/
def Obligations.DecodeOfEncode : Prop :=
  ∀ (i : Instr) (rest : List Byte), i.WellFormed = true → i.isRefused = false →
    decode (encode i ++ rest) = .ok (i, rest)

/-- What decodes is well formed, is no refused form, and its encoding is exactly the bytes consumed (30_encoding.md R71,
R72, R78 to R83, R89, R91). -/
def Obligations.EncodeOfDecode : Prop :=
  ∀ (bs rest : List Byte) (i : Instr), decode bs = .ok (i, rest) →
    i.WellFormed = true ∧ i.isRefused = false ∧ bs = encode i ++ rest

/-- The refused encodings end the pass with NotDispatched at their first byte (30_encoding.md R84). -/
def Obligations.RefusedEncodingsAreNotDispatched : Prop :=
  ∀ (stream rest : List Byte) (d : Decoder) (b1 : Byte), d.status = .Running →
    stream.drop d.cursor = b1 :: rest →
    ((b1 ∈ ([0xE8, 0x9A, 0xE9, 0xEB, 0xEA, 0x26, 0x2E, 0x36, 0x3E] : List Byte) ∨ (0xD8 ≤ b1 ∧ b1 ≤ 0xDF)) →
      d.turn stream = { d with status := .Failed ⟨.NotDispatched, d.cursor, b1, none⟩ }) ∧
    (∀ (b2 : Byte) (more : List Byte), (b1 = 0xD4 ∨ b1 = 0xD5) → rest = b2 :: more → b2 ≠ 0x0A →
      d.turn stream = { d with status := .Failed ⟨.NotDispatched, d.cursor, b1, some b2⟩ })

/-- The illegal encodings end the pass with Illegal, and b2 is reported where it is inspected (30_encoding.md R85). -/
def Obligations.IllegalEncodingsAreIllegal : Prop :=
  ∀ (stream rest : List Byte) (d : Decoder) (b1 : Byte), d.status = .Running →
    stream.drop d.cursor = b1 :: rest →
    (((0x60 ≤ b1 ∧ b1 ≤ 0x6F) ∨ b1 ∈ ([0xC0, 0xC1, 0xC8, 0xC9, 0xD6, 0xF1] : List Byte)) →
      d.turn stream = { d with status := .Failed ⟨.Illegal, d.cursor, b1, none⟩ }) ∧
    (∀ (b2 : Byte) (more : List Byte), rest = b2 :: more →
      (((b1 = 0x8C ∨ b1 = 0x8E) ∧ b2.getLsbD 5 = true) ∨
        ((b1 = 0x8F ∨ b1 = 0xC6 ∨ b1 = 0xC7) ∧ b2.extractLsb' 3 3 ≠ 0) ∨
        ((0xD0 ≤ b1 ∧ b1 ≤ 0xD3) ∧ b2.extractLsb' 3 3 = 6) ∨
        ((b1 = 0xF6 ∨ b1 = 0xF7) ∧ b2.extractLsb' 3 3 = 1) ∨
        (b1 = 0xFE ∧ 2 ≤ b2.extractLsb' 3 3) ∨ (b1 = 0xFF ∧ b2.extractLsb' 3 3 = 7)) →
      d.turn stream = { d with status := .Failed ⟨.Illegal, d.cursor, b1, some b2⟩ })

/-- A stream that ends inside an instruction ends the pass with Truncated, and b2 is reported where the classifier or
the length rule read it (30_encoding.md R86, R94; 40_decoder.md R140; 60_exceptions.md R511). -/
def Obligations.TruncatedEncodingsAreTruncated : Prop :=
  ∀ (stream : List Byte) (d : Decoder), d.status = .Running →
    (∀ b1 : Byte, b1 ∈ inspectsB2 → stream.drop d.cursor = [b1] →
      d.turn stream = { d with status := .Failed ⟨.Truncated, d.cursor, b1, none⟩ }) ∧
    (∀ (i : Instr) (k : Nat), i.WellFormed = true → i.isRefused = false → 1 ≤ k → k < i.size →
      stream.drop d.cursor = (encode i).take k →
      ∃ b1 b2, (encode i).head? = some b1 ∧
        d.turn stream = { d with status := .Failed ⟨.Truncated, d.cursor, b1, b2⟩ } ∧
        (k = 1 → b2 = none) ∧
        (2 ≤ k → (b1 ∈ inspectsB2 ∨ ∃ t, i.type = some t ∧ t.format = .MR) → b2 = (encode i)[1]?) ∧
        (b1 ∉ inspectsB2 → (∀ t, i.type = some t → t.format ≠ .MR) → b2 = none))

/-- The instruction types are the tags 0 to 127, and exactly the refused forms have no type (40_decoder.md R122;
30_encoding.md R91). -/
def Obligations.TypesAreTags0To127 : Prop :=
  (∀ t : InstrType, t.tag < 128) ∧
  (∀ n : Nat, n < 128 → ∃ t : InstrType, t.tag = n ∧ ∀ u : InstrType, u.tag = n → u = t) ∧
  (∀ (i : Instr) (p : Nat), i.isRefused = false → i.type.isSome = true ∧ (i.record p).isSome = true) ∧
  (∀ (i : Instr) (p : Nat), i.isRefused = true → i.type = none ∧ i.record p = none)

/-- The operands of a record, kind, width, suppression and value, are those its type's format reads from the
instruction's bytes (40_decoder.md R123 to R139, R141 to R147, R153, R154; 30_encoding.md R71, R72, R75, R78 to
R83). -/
def Obligations.RecordShapeFollowsFormat : Prop :=
  ∀ (i : Instr) (p : Nat) (I : Record), i.WellFormed = true → i.record p = some I →
    i.type = some I.type ∧ I.size = i.size ∧ I.size = (encode i).length ∧
    (I.wide = true ↔ I.type ∈ stringOperations ∧ (byteOf (encode i) 0).getLsbD 0 = true) ∧
    (I.dst, I.src) = operandsFrom I.type p (encode i)

/-- A conditional jump or loop at offset p is two bytes and its record holds the target p + 2 + disp8 (40_decoder.md
R134; 92_eei_decisions.md D23). -/
def Obligations.JumpRecordsHoldTheirTarget : Prop :=
  ∀ (i : Instr) (p : Nat) (I : Record), i.record p = some I → I.type.format = .J8 →
    ∃ b1 disp : Byte, encode i = [b1, disp] ∧
      I = ⟨I.type, 2, false, some (.JumpLabel ((p : Int) + 2 + disp.toInt)), none⟩

/-- The direction bit chooses the destination of the d forms; the exchange and address-load forms fix it (40_decoder.md
R142; 30_encoding.md R74). -/
def Obligations.DirectionBitNamesDestination : Prop :=
  ∀ (d w : Bool) (reg q : RegName) (p : Nat) (mk : Bool → Bool → RegName → RMOperand → Instr),
    mk ∈ [Instr.movRmReg, .addRmReg, .adcRmReg, .subRmReg, .sbbRmReg, .cmpRmReg, .andRmReg, .orRmReg, .xorRmReg] →
    (mk d w reg (.reg q)).operands p =
      (some (.Register (if d then reg else q)), some (.Register (if d then q else reg))) ∧
    (Instr.xchgRmReg w reg (.reg q)).operands p = (some (.Register reg), some (.Register q)) ∧
    (Instr.lea reg (.reg q)).operands p = (some (.Register reg), some (.Register q)) ∧
    (Instr.lds reg (.reg q)).operands p = (some (.Register reg), some (.Register q)) ∧
    (Instr.les reg (.reg q)).operands p = (some (.Register reg), some (.Register q)) ∧
    (Instr.testRmReg w reg (.reg q)).operands p = (some (.Register q), some (.Register reg))

/-- Inserting a label puts it before the first label not below it, and a present label changes nothing (40_decoder.md
R149). -/
def Obligations.LabelInsertIsLinearScan : Prop :=
  (∀ (labels : List Int) (t : Int), insertLabel labels t =
    if (labels.dropWhile (fun l => decide (l < t))).head? = some t then labels
    else labels.takeWhile (fun l => decide (l < t)) ++ t :: labels.dropWhile (fun l => decide (l < t))) ∧
  insertLabel (insertLabel (insertLabel (insertLabel [] 7) 3) 7) 10 = [3, 7, 10]

/-- At every point of a pass the labels are exactly the jump targets, ascending, and every record is the decoding at its
offset (40_decoder.md R140, R150, R152). -/
def Obligations.PassKeepsLabelsAndOffsets : Prop :=
  ∀ (stream : List Byte) (n : Nat), (Decoder.turns stream n Decoder.reset).Inv ∧
    DecodedFrom stream (Decoder.turns stream n Decoder.reset).seq

/-- A decode pass ends Done at the end of the stream or Failed at an offset, and in no other way
(70_reset_and_hazards.md R557). -/
def Obligations.PassEndsDoneOrFailed : Prop :=
  (∀ stream : List Byte, let d := decodePass stream
    (d.status = .Done ∧ d.cursor = stream.length ∧ totalSize d.seq = stream.length) ∨
    (∃ f, d.status = .Failed f ∧ totalSize d.seq = f.offset ∧ f.offset < stream.length ∧
      decode (stream.drop f.offset) = .error (.failure f.reason f.b1 f.b2))) ∧
  decodePass [] = { cursor := 0, seq := [], labels := [], status := .Done }

/-- Reset leaves every register, flag, ip and memory byte at zero, and the decoder at the start of a pass
(70_reset_and_hazards.md R550; 70_reset_and_hazards.md R552). -/
def Obligations.ResetIsAllZero : Prop :=
  (∀ p : Fin 24, State.reset.ctx.regs.get p = 0) ∧ (∀ r, getRegister r State.reset = 0) ∧
  State.reset.ctx.F = ⟨false, false, false, false, false, false⟩ ∧ State.reset.ctx.ip = 0 ∧
  (∀ a, State.reset.ctx.mem.byteAt a = 0) ∧
  State.reset.dec = { cursor := 0, seq := [], labels := [], status := .Running } ∧
  (∀ s : State, s.decodeAll.dec =
    Decoder.turns s.stream (s.stream.length + 1) { cursor := 0, seq := [], labels := [], status := .Running })

/-- A register read assembles its bytes low first, and a write changes its own bytes alone (10_state.md R24; 10_state.md
R25). -/
def Obligations.RegisterBytesReadAndWrite : Prop :=
  ∀ (regs : RegFile) (r : RegName) (v : Word),
    (r.isByte = true → (readReg regs r).toNat = (regs.get (regPos r)).toNat ∧
      (writeReg regs r v).get (regPos r) = v.extractLsb' 0 8 ∧
      ∀ q, q ≠ regPos r → (writeReg regs r v).get q = regs.get q) ∧
    (r.isByte = false →
      (readReg regs r).toNat = (regs.get (regPos r)).toNat + 256 * (regs.get (regPos r + 1)).toNat ∧
      (writeReg regs r v).get (regPos r) = v.extractLsb' 0 8 ∧
      (writeReg regs r v).get (regPos r + 1) = v.extractLsb' 8 8 ∧
      ∀ q, q ≠ regPos r → q ≠ regPos r + 1 → (writeReg regs r v).get q = regs.get q)

/-- The low and high aliases of AX, CX, DX and BX are the halves of what was written, both ways round (10_state.md R26). -/
def Obligations.AliasesReadTheirHalves : Prop :=
  ∀ (regs : RegFile) (x : RegName × RegName × RegName) (v : Word) (u : Byte),
    x ∈ [(RegName.AX, RegName.AL, RegName.AH), (.CX, .CL, .CH), (.DX, .DL, .DH), (.BX, .BL, .BH)] →
    readReg (writeReg regs x.1 v) x.2.1 = (v.extractLsb' 0 8).setWidth 16 ∧
    readReg (writeReg regs x.1 v) x.2.2 = (v.extractLsb' 8 8).setWidth 16 ∧
    (readReg (writeReg regs x.2.1 (u.setWidth 16)) x.1).toNat = (readReg regs x.2.2).toNat * 256 + u.toNat ∧
    readReg (writeReg regs x.2.1 (u.setWidth 16)) x.2.2 = readReg regs x.2.2 ∧
    (readReg (writeReg regs x.2.2 (u.setWidth 16)) x.1).toNat = u.toNat * 256 + (readReg regs x.2.1).toNat ∧
    readReg (writeReg regs x.2.2 (u.setWidth 16)) x.2.1 = readReg regs x.2.1

/-- SetRegister writes the value modulo the register's width, GetRegister reads it, and nothing else changes
(42_execution_unit.md R219, R220, R221). -/
def Obligations.HostRegisterAccess : Prop :=
  ∀ (name : RegName) (value : Int) (s : State),
    ((getRegister name (setRegister name value s)).toNat : Int) = value % (if name.isByte then 256 else 65536) ∧
    RegistersKeptBut name s (setRegister name value s) ∧
    (setRegister name value s).ctx.F = s.ctx.F ∧ (setRegister name value s).ctx.ip = s.ctx.ip ∧
    (setRegister name value s).ctx.mem = s.ctx.mem ∧ (setRegister name value s).dec = s.dec ∧
    (setRegister name value s).pos = s.pos ∧ (setRegister name value s).stream = s.stream ∧
    (setRegister name value s).params = s.params

/-- The effective address is the base registers plus the signed displacement, modulo 2^16 (20_memory.md R61). Rests on a
choice of the model: log 11. -/
def Obligations.EffectiveAddressFormulas : Prop :=
  ∀ (regs : RegFile) (ea : AddressCalc),
    ((effectiveAddress regs ea).toNat : Int) =
      ((match ea.tag with
        | .BX_SI | .BX_SI_D8 | .BX_SI_D16 => ((readReg regs .BX).toNat + (readReg regs .SI).toNat : Int)
        | .BX_DI | .BX_DI_D8 | .BX_DI_D16 => ((readReg regs .BX).toNat + (readReg regs .DI).toNat : Int)
        | .BP_SI | .BP_SI_D8 | .BP_SI_D16 => ((readReg regs .BP).toNat + (readReg regs .SI).toNat : Int)
        | .BP_DI | .BP_DI_D8 | .BP_DI_D16 => ((readReg regs .BP).toNat + (readReg regs .DI).toNat : Int)
        | .SI | .SI_D8 | .SI_D16 => ((readReg regs .SI).toNat : Int)
        | .DI | .DI_D8 | .DI_D16 => ((readReg regs .DI).toNat : Int)
        | .BP_D8 | .BP_D16 => ((readReg regs .BP).toNat : Int)
        | .BX | .BX_D8 | .BX_D16 => ((readReg regs .BX).toNat : Int)
        | .DIRECT => 0) + ea.disp.toInt) % 65536

/-- MemWrite keeps the canonical form, stores its bytes and no other, and MemRead gives the value back (10_state.md R34;
20_memory.md R56, R58). Rests on a choice of the model: log 10. -/
def Obligations.MemoryPrimitivesReadWrite : Prop :=
  ∀ (size a : Nat) (wide : Bool) (v : Word) (m : Memory), m.wf size →
    ((memWrite size m a wide v).isSome = true ↔ a + (if wide then 1 else 0) < size) ∧
    ∀ m', memWrite size m a wide v = some m' → m'.wf size ∧
      (∀ b, ¬ (a ≤ b ∧ b ≤ a + (if wide then 1 else 0)) → m'.byteAt b = m.byteAt b) ∧
      m'.byteAt a = v.extractLsb' 0 8 ∧ (wide = true → m'.byteAt (a + 1) = v.extractLsb' 8 8) ∧
      memRead size m' a wide = some (if wide then v else (v.extractLsb' 0 8).setWidth 16)

/-- Reading and writing a Data Location: registers, immediates, memory and labels (42_execution_unit.md R192;
42_execution_unit.md R193). -/
def Obligations.OperandAccessByLocation : Prop :=
  ∀ (regs : RegFile) (I : Record) (wide : Bool) (v x : Word) (r : RegName) (ea : AddressCalc) (a b : Bool) (t : Int),
    readLoc regs I (.Register r) wide = .next (readReg regs r) ∧
    readLoc regs I (.Immediate x a b) wide = .next (if wide then x else (x.extractLsb' 0 8).setWidth 16) ∧
    readLoc regs I (.Memory ea a b) wide = .refused (.simulationFailure (.MemoryOperand I)) ∧
    readLoc regs I (.JumpLabel t) wide = .fault .ReadLabel ∧
    writeLoc regs I (.Register r) v = .next (writeReg regs r v) ∧
    writeLoc regs I (.Memory ea a b) v = .refused (.simulationFailure (.MemoryOperand I)) ∧
    writeLoc regs I (.Immediate x a b) v = .fault .WriteImmediate ∧
    writeLoc regs I (.JumpLabel t) v = .fault .WriteLabel

/-- Add and subtract results are reduced modulo 2^n (42_execution_unit.md R201). -/
def Obligations.AddAndSubtractWrap : Prop :=
  ∀ (wide : Bool) (a b : Word), a.toNat < 2 ^ (if wide then 16 else 8) → b.toNat < 2 ^ (if wide then 16 else 8) →
    (aluResult .add wide a b).toNat = (a.toNat + b.toNat) % 2 ^ (if wide then 16 else 8) ∧
    ((aluResult .sub wide a b).toNat : Int) = ((a.toNat : Int) - b.toNat) % 2 ^ (if wide then 16 else 8)

/-- ZF, SF and PF of a result, with PF over all 16 bits, and which flags ADD, SUB and CMP write (42_execution_unit.md
R202; 42_execution_unit.md R203; 42_execution_unit.md R204; 42_execution_unit.md R205; 90_conflicts.md C1). Rests on
a choice of the model: log 13, the clause on CMP. -/
def Obligations.FlagFunctionsOfAResult : Prop :=
  (∀ (r : Word), zeroFlag r = decide (r = 0) ∧ signFlag true r = r.getLsbD 15 ∧ signFlag false r = r.getLsbD 7 ∧
    parityFlag r = decide (((Finset.range 16).filter fun k => r.getLsbD k = true).card % 2 = 0)) ∧
  parityFlag 0x0100 = false ∧
  (∀ (wide : Bool) (r : Word) (F : Flags),
    aluFlags .add (r, wide) F = ⟨F.CF, parityFlag r, F.AF, zeroFlag r, signFlag wide r, F.OF⟩ ∧
    aluFlags .sub (r, wide) F = ⟨false, parityFlag r, false, zeroFlag r, signFlag wide r, false⟩ ∧
    clearAll F = ⟨false, false, false, false, false, false⟩) ∧
  (∀ (I : Record) (s t : State), simCmp I s = .next t → t.ctx.F = clearAll s.ctx.F)

/-- The two bases of 8-bit ADD and SUB write the same registers and differ at most in the flags (42_execution_unit.md
R206). -/
def Obligations.ByteBasesDifferInFlagsOnly : Prop :=
  ∀ (I : Record) (s : State),
    SameOutcome (fun t u => u.ctx.regs = t.ctx.regs ∧ u.ctx.ip = t.ctx.ip ∧ u.ctx.mem = t.ctx.mem ∧ u.dec = t.dec ∧
        u.pos = t.pos ∧ u.stream = t.stream ∧
        (∀ r, I.dst = some (.Register r) → r.isByte = false → u.ctx.F = t.ctx.F))
      (simulateInstruction I { s with params := { s.params with byteResultBasis := .Truncated } })
      (simulateInstruction I { s with params := { s.params with byteResultBasis := .Wide16 } })

/-- MOV_RM_REG on registers copies the source to the destination and writes no flag (43_data_transfer.md R230;
42_execution_unit.md R198, R199). -/
def Obligations.MovRegisterForms : Prop :=
  ∀ (d w : Bool) (reg q : RegName) (s : State), wfReg w reg = true → wfReg w q = true →
    ∃ t, exec (.movRmReg d w reg (.reg q)) s = .next t ∧
      readReg t.ctx.regs (if d then reg else q) = readReg s.ctx.regs (if d then q else reg) ∧
      RegistersKeptBut (if d then reg else q) s t ∧ t.ctx.F = s.ctx.F ∧ Frame 2 s t

/-- MOV_IMM_REG loads the immediate, reduced to the register's width, and writes no flag (43_data_transfer.md R232;
42_execution_unit.md R194, R198, R199). -/
def Obligations.MovImmediateToRegister : Prop :=
  ∀ (w : Bool) (reg : RegName) (imm : Word) (s : State), wfReg w reg = true →
    ∃ t, exec (.movImmReg w reg imm) s = .next t ∧
      readReg t.ctx.regs reg = (if w then imm else (imm.extractLsb' 0 8).setWidth 16) ∧
      RegistersKeptBut reg s t ∧ t.ctx.F = s.ctx.F ∧ Frame (if w then 3 else 2) s t

/-- MOV_RM_SR and MOV_SR_RM copy 16 bits between a general and a segment register, CS included (43_data_transfer.md
R235, R236; 10_state.md R29). -/
def Obligations.MovSegmentRegisterForms : Prop :=
  ∀ (sr : SegReg) (q : RegName) (s : State), wfReg true q = true →
    (∃ t, exec (.movRmSr sr (.reg q)) s = .next t ∧ readReg t.ctx.regs sr.name = readReg s.ctx.regs q ∧
      RegistersKeptBut sr.name s t ∧ t.ctx.F = s.ctx.F ∧ Frame 2 s t) ∧
    (∃ t, exec (.movSrRm sr (.reg q)) s = .next t ∧ readReg t.ctx.regs q = readReg s.ctx.regs sr.name ∧
      RegistersKeptBut q s t ∧ t.ctx.F = s.ctx.F ∧ Frame 2 s t)

/-- ADD_RM_REG on registers adds the source to the destination and sets ZF, SF and PF from the result (44_arithmetic.md
R300; 42_execution_unit.md R198, R199, R201 to R206). -/
def Obligations.AddRegisterForms : Prop :=
  ∀ (d w : Bool) (reg q : RegName) (s : State), wfReg w reg = true → wfReg w q = true →
    let a := readReg s.ctx.regs (if d then reg else q)
    let b := readReg s.ctx.regs (if d then q else reg)
    ∃ t, exec (.addRmReg d w reg (.reg q)) s = .next t ∧
      readReg t.ctx.regs (if d then reg else q) = (if w then a + b else ((a + b).extractLsb' 0 8).setWidth 16) ∧
      RegistersKeptBut (if d then reg else q) s t ∧
      t.ctx.F = (match w, s.params.byteResultBasis with
        | true, _ => setZSP true (a + b) s.ctx.F
        | false, .Truncated => setZSP false (((a + b).extractLsb' 0 8).setWidth 16) s.ctx.F
        | false, .Wide16 => setZSP true (a + b) s.ctx.F) ∧
      Frame 2 s t

/-- SUB_RM_REG on registers subtracts the source from the destination and sets ZF, SF and PF from the result
(44_arithmetic.md R310; 42_execution_unit.md R198, R199, R201 to R206). -/
def Obligations.SubRegisterForms : Prop :=
  ∀ (d w : Bool) (reg q : RegName) (s : State), wfReg w reg = true → wfReg w q = true →
    let a := readReg s.ctx.regs (if d then reg else q)
    let b := readReg s.ctx.regs (if d then q else reg)
    ∃ t, exec (.subRmReg d w reg (.reg q)) s = .next t ∧
      readReg t.ctx.regs (if d then reg else q) = (if w then a - b else ((a - b).extractLsb' 0 8).setWidth 16) ∧
      RegistersKeptBut (if d then reg else q) s t ∧
      t.ctx.F = (match w, s.params.byteResultBasis with
        | true, _ => setZSP true (a - b) Flags.none
        | false, .Truncated => setZSP false (((a - b).extractLsb' 0 8).setWidth 16) Flags.none
        | false, .Wide16 => setZSP true (a - b) Flags.none) ∧
      Frame 2 s t

/-- ADD_IMM_RM on a register adds an immediate to a register and sets ZF, SF and PF from the result (44_arithmetic.md
R301; 42_execution_unit.md R194, R198, R199, R201 to R206; 30_encoding.md R75). -/
def Obligations.AddImmediateForms : Prop :=
  ∀ (e w : Bool) (q : RegName) (imm : Word) (s : State), wfReg w q = true →
    let a := readReg s.ctx.regs q
    ∃ t, exec (.addImmRm e w (.reg q) imm) s = .next t ∧
      readReg t.ctx.regs q = (if w then a + imm else ((a + imm).extractLsb' 0 8).setWidth 16) ∧
      RegistersKeptBut q s t ∧
      t.ctx.F = (match w, s.params.byteResultBasis with
        | true, _ => setZSP true (a + imm) s.ctx.F
        | false, .Truncated => setZSP false (((a + imm).extractLsb' 0 8).setWidth 16) s.ctx.F
        | false, .Wide16 => setZSP true (a + imm) s.ctx.F) ∧
      Frame (if w && !e then 4 else 3) s t

/-- SUB_IMM_RM on a register subtracts an immediate from a register and sets ZF, SF and PF from the result
(44_arithmetic.md R311; 42_execution_unit.md R194, R198, R199, R201 to R206; 30_encoding.md R75). -/
def Obligations.SubImmediateForms : Prop :=
  ∀ (e w : Bool) (q : RegName) (imm : Word) (s : State), wfReg w q = true →
    let a := readReg s.ctx.regs q
    ∃ t, exec (.subImmRm e w (.reg q) imm) s = .next t ∧
      readReg t.ctx.regs q = (if w then a - imm else ((a - imm).extractLsb' 0 8).setWidth 16) ∧
      RegistersKeptBut q s t ∧
      t.ctx.F = (match w, s.params.byteResultBasis with
        | true, _ => setZSP true (a - imm) Flags.none
        | false, .Truncated => setZSP false (((a - imm).extractLsb' 0 8).setWidth 16) Flags.none
        | false, .Wide16 => setZSP true (a - imm) Flags.none) ∧
      Frame (if w && !e then 4 else 3) s t

/-- CMP on registers and immediates clears all six flags and changes no register (44_arithmetic.md R319, R320;
42_execution_unit.md R205; 90_conflicts.md C1). Rests on a choice of the model: log 13. -/
def Obligations.CompareForms : Prop :=
  ∀ (d e w : Bool) (reg q : RegName) (imm : Word) (s : State), wfReg w reg = true → wfReg w q = true →
    (∃ t, exec (.cmpRmReg d w reg (.reg q)) s = .next t ∧
      t.ctx.F = ⟨false, false, false, false, false, false⟩ ∧ RegistersKept s t ∧ t.ctx.regs = s.ctx.regs ∧ Frame 2 s t) ∧
    (∃ t, exec (.cmpImmRm e w (.reg q) imm) s = .next t ∧
      t.ctx.F = ⟨false, false, false, false, false, false⟩ ∧ RegistersKept s t ∧ t.ctx.regs = s.ctx.regs ∧
      Frame (if w && !e then 4 else 3) s t)

/-- The memory forms of the nine executed types with an rm operand stop with MemoryOperand (42_execution_unit.md R197,
R198; 43_data_transfer.md R230, R235, R236; 44_arithmetic.md R300, R301, R310, R311, R319, R320). -/
def Obligations.MemoryFormsStop : Prop :=
  ∀ (d e w : Bool) (reg : RegName) (sr : SegReg) (ea : AddressCalc) (imm : Word) (s : State) (i : Instr),
    i ∈ [Instr.movRmReg d w reg (.mem ea), .movRmSr sr (.mem ea), .movSrRm sr (.mem ea), .addRmReg d w reg (.mem ea),
      .addImmRm e w (.mem ea) imm, .subRmReg d w reg (.mem ea), .subImmRm e w (.mem ea) imm, .cmpRmReg d w reg (.mem ea),
      .cmpImmRm e w (.mem ea) imm] →
    ∃ I, i.record s.dec.cursor = some I ∧ exec i s = .refused (.simulationFailure (.MemoryOperand I))

/-- The meaning of every instruction is the execution unit's step on the record that the decoder builds for it
(42_execution_unit.md R198; 40_decoder.md R131 to R147). -/
def Obligations.MeaningIsTheRecordsExecution : Prop :=
  ∀ (i : Instr) (s : State) (I : Record), i.record s.dec.cursor = some I → exec i s = simulateInstruction I s

/-- Every type outside the supported set fails with NotImplemented, its mnemonic and its tag (42_execution_unit.md
R200). -/
def Obligations.UnsupportedTypesFail : Prop :=
  (∀ (I : Record) (s : State),
    I.type ∉ [InstrType.MOV_IMM_REG, .MOV_RM_REG, .MOV_RM_SR, .MOV_SR_RM, .ADD_RM_REG, .ADD_IMM_RM, .SUB_RM_REG,
      .SUB_IMM_RM, .CMP_RM_REG, .CMP_IMM_RM] →
    simulateInstruction I s = .refused (.simulationFailure (.NotImplemented I.type.mnemonic I.type.tag)) ∧
    ∀ rest, simulate (I :: rest) s =
      .returned s (some (.simulationFailure (.NotImplemented I.type.mnemonic I.type.tag)))) ∧
  (∀ s, exec (.decReg .CX) s = .refused (.simulationFailure (.NotImplemented "dec" 44)))

/-- A supported type with a memory operand fails, and memory is never read or written by a step (42_execution_unit.md
R197). -/
def Obligations.MemoryOperandsFailAndMemoryIsUntouched : Prop :=
  (∀ (I : Record) (s : State), I.type.execOp.isSome = true → I.hasMemory = true →
    simulateInstruction I s = .refused (.simulationFailure (.MemoryOperand I))) ∧
  (∀ s t : State, step s = .next t → t.ctx.mem = s.ctx.mem) ∧
  (∀ (s : State) (m : Memory), SameOutcome (fun t u => u = t.withMem m) (step s) (step (s.withMem m)))

/-- Each of the 23 data transfer types that are not simulated stops with NotImplemented and its own mnemonic and tag
(43_data_transfer.md R231, R233, R234, R237 to R256; 42_execution_unit.md R200). -/
def Obligations.DataTransferTypesNotSimulated : Prop :=
  ∀ st : State,
    (∀ (w : Bool) (rm : RMOperand) (imm : Word),
      exec (.movImmRm w rm imm) st = .refused (.simulationFailure (.NotImplemented "mov" 1))) ∧
    (∀ (w : Bool) (addr : Word),
      exec (.movMemAcc w addr) st = .refused (.simulationFailure (.NotImplemented "mov" 3))) ∧
    (∀ (w : Bool) (addr : Word),
      exec (.movAccMem w addr) st = .refused (.simulationFailure (.NotImplemented "mov" 4))) ∧
    (∀ (rm : RMOperand), exec (.pushRm rm) st = .refused (.simulationFailure (.NotImplemented "push" 7))) ∧
    (∀ (reg : RegName), exec (.pushReg reg) st = .refused (.simulationFailure (.NotImplemented "push" 8))) ∧
    (∀ (sr : SegReg), exec (.pushSr sr) st = .refused (.simulationFailure (.NotImplemented "push" 9))) ∧
    (∀ (rm : RMOperand), exec (.popRm rm) st = .refused (.simulationFailure (.NotImplemented "pop" 10))) ∧
    (∀ (reg : RegName), exec (.popReg reg) st = .refused (.simulationFailure (.NotImplemented "pop" 11))) ∧
    (∀ (sr : SegReg), exec (.popSr sr) st = .refused (.simulationFailure (.NotImplemented "pop" 12))) ∧
    (∀ (w : Bool) (reg : RegName) (rm : RMOperand),
      exec (.xchgRmReg w reg rm) st = .refused (.simulationFailure (.NotImplemented "xchg" 13))) ∧
    (∀ (reg : RegName), exec (.xchgRegAcc reg) st = .refused (.simulationFailure (.NotImplemented "xchg" 14))) ∧
    (∀ (w : Bool) (port : Byte),
      exec (.inFixed w port) st = .refused (.simulationFailure (.NotImplemented "in" 15))) ∧
    (∀ (w : Bool), exec (.inVar w) st = .refused (.simulationFailure (.NotImplemented "in" 16))) ∧
    (∀ (w : Bool) (port : Byte),
      exec (.outFixed w port) st = .refused (.simulationFailure (.NotImplemented "out" 17))) ∧
    (∀ (w : Bool), exec (.outVar w) st = .refused (.simulationFailure (.NotImplemented "out" 18))) ∧
    (exec .xlat st = .refused (.simulationFailure (.NotImplemented "xlat" 19))) ∧
    (∀ (reg : RegName) (rm : RMOperand),
      exec (.lea reg rm) st = .refused (.simulationFailure (.NotImplemented "lea" 20))) ∧
    (∀ (reg : RegName) (rm : RMOperand),
      exec (.lds reg rm) st = .refused (.simulationFailure (.NotImplemented "lds" 21))) ∧
    (∀ (reg : RegName) (rm : RMOperand),
      exec (.les reg rm) st = .refused (.simulationFailure (.NotImplemented "les" 22))) ∧
    (exec .lahf st = .refused (.simulationFailure (.NotImplemented "lahf" 23))) ∧
    (exec .sahf st = .refused (.simulationFailure (.NotImplemented "sahf" 24))) ∧
    (exec .pushf st = .refused (.simulationFailure (.NotImplemented "pushf" 25))) ∧
    (exec .popf st = .refused (.simulationFailure (.NotImplemented "popf" 26)))

/-- Each of the 26 arithmetic types that are not simulated stops with NotImplemented and its own mnemonic and tag
(44_arithmetic.md R302 to R309, R312 to R318, R321 to R331; 42_execution_unit.md R200). -/
def Obligations.ArithmeticTypesNotSimulated : Prop :=
  ∀ st : State,
    (∀ (w : Bool) (imm : Word),
      exec (.addImmAcc w imm) st = .refused (.simulationFailure (.NotImplemented "add" 29))) ∧
    (∀ (d w : Bool) (reg : RegName) (rm : RMOperand),
      exec (.adcRmReg d w reg rm) st = .refused (.simulationFailure (.NotImplemented "adc" 30))) ∧
    (∀ (s w : Bool) (rm : RMOperand) (imm : Word),
      exec (.adcImmRm s w rm imm) st = .refused (.simulationFailure (.NotImplemented "adc" 31))) ∧
    (∀ (w : Bool) (imm : Word),
      exec (.adcImmAcc w imm) st = .refused (.simulationFailure (.NotImplemented "adc" 32))) ∧
    (∀ (w : Bool) (rm : RMOperand),
      exec (.incRm w rm) st = .refused (.simulationFailure (.NotImplemented "inc" 33))) ∧
    (∀ (reg : RegName), exec (.incReg reg) st = .refused (.simulationFailure (.NotImplemented "inc" 34))) ∧
    (exec .aaa st = .refused (.simulationFailure (.NotImplemented "aaa" 35))) ∧
    (exec .daa st = .refused (.simulationFailure (.NotImplemented "daa" 36))) ∧
    (∀ (w : Bool) (imm : Word),
      exec (.subImmAcc w imm) st = .refused (.simulationFailure (.NotImplemented "sub" 39))) ∧
    (∀ (d w : Bool) (reg : RegName) (rm : RMOperand),
      exec (.sbbRmReg d w reg rm) st = .refused (.simulationFailure (.NotImplemented "sbb" 40))) ∧
    (∀ (s w : Bool) (rm : RMOperand) (imm : Word),
      exec (.sbbImmRm s w rm imm) st = .refused (.simulationFailure (.NotImplemented "sbb" 41))) ∧
    (∀ (w : Bool) (imm : Word),
      exec (.sbbImmAcc w imm) st = .refused (.simulationFailure (.NotImplemented "sbb" 42))) ∧
    (∀ (w : Bool) (rm : RMOperand),
      exec (.decRm w rm) st = .refused (.simulationFailure (.NotImplemented "dec" 43))) ∧
    (∀ (reg : RegName), exec (.decReg reg) st = .refused (.simulationFailure (.NotImplemented "dec" 44))) ∧
    (∀ (w : Bool) (rm : RMOperand), exec (.neg w rm) st = .refused (.simulationFailure (.NotImplemented "neg" 45))) ∧
    (∀ (w : Bool) (imm : Word),
      exec (.cmpImmAcc w imm) st = .refused (.simulationFailure (.NotImplemented "cmp" 48))) ∧
    (exec .aas st = .refused (.simulationFailure (.NotImplemented "aas" 49))) ∧
    (exec .das st = .refused (.simulationFailure (.NotImplemented "das" 50))) ∧
    (∀ (w : Bool) (rm : RMOperand), exec (.mul w rm) st = .refused (.simulationFailure (.NotImplemented "mul" 51))) ∧
    (∀ (w : Bool) (rm : RMOperand),
      exec (.imul w rm) st = .refused (.simulationFailure (.NotImplemented "imul" 52))) ∧
    (exec .aam st = .refused (.simulationFailure (.NotImplemented "aam" 53))) ∧
    (∀ (w : Bool) (rm : RMOperand), exec (.div w rm) st = .refused (.simulationFailure (.NotImplemented "div" 54))) ∧
    (∀ (w : Bool) (rm : RMOperand),
      exec (.idiv w rm) st = .refused (.simulationFailure (.NotImplemented "idiv" 55))) ∧
    (exec .aad st = .refused (.simulationFailure (.NotImplemented "aad" 56))) ∧
    (exec .cbw st = .refused (.simulationFailure (.NotImplemented "cbw" 57))) ∧
    (exec .cwd st = .refused (.simulationFailure (.NotImplemented "cwd" 58)))

/-- Each of the 20 logic types that are not simulated stops with NotImplemented and its own mnemonic and tag
(45_logic.md R370 to R389; 42_execution_unit.md R200). -/
def Obligations.LogicTypesNotSimulated : Prop :=
  ∀ st : State,
    (∀ (w : Bool) (rm : RMOperand), exec (.not w rm) st = .refused (.simulationFailure (.NotImplemented "not" 59))) ∧
    (∀ (v w : Bool) (rm : RMOperand),
      exec (.shl v w rm) st = .refused (.simulationFailure (.NotImplemented "shl" 60))) ∧
    (∀ (v w : Bool) (rm : RMOperand),
      exec (.shr v w rm) st = .refused (.simulationFailure (.NotImplemented "shr" 61))) ∧
    (∀ (v w : Bool) (rm : RMOperand),
      exec (.sar v w rm) st = .refused (.simulationFailure (.NotImplemented "sar" 62))) ∧
    (∀ (v w : Bool) (rm : RMOperand),
      exec (.rol v w rm) st = .refused (.simulationFailure (.NotImplemented "rol" 63))) ∧
    (∀ (v w : Bool) (rm : RMOperand),
      exec (.ror v w rm) st = .refused (.simulationFailure (.NotImplemented "ror" 64))) ∧
    (∀ (v w : Bool) (rm : RMOperand),
      exec (.rcl v w rm) st = .refused (.simulationFailure (.NotImplemented "rcl" 65))) ∧
    (∀ (v w : Bool) (rm : RMOperand),
      exec (.rcr v w rm) st = .refused (.simulationFailure (.NotImplemented "rcr" 66))) ∧
    (∀ (d w : Bool) (reg : RegName) (rm : RMOperand),
      exec (.andRmReg d w reg rm) st = .refused (.simulationFailure (.NotImplemented "and" 67))) ∧
    (∀ (s w : Bool) (rm : RMOperand) (imm : Word),
      exec (.andImmRm s w rm imm) st = .refused (.simulationFailure (.NotImplemented "and" 68))) ∧
    (∀ (w : Bool) (imm : Word),
      exec (.andImmAcc w imm) st = .refused (.simulationFailure (.NotImplemented "and" 69))) ∧
    (∀ (w : Bool) (reg : RegName) (rm : RMOperand),
      exec (.testRmReg w reg rm) st = .refused (.simulationFailure (.NotImplemented "test" 70))) ∧
    (∀ (w : Bool) (rm : RMOperand) (imm : Word),
      exec (.testImmRm w rm imm) st = .refused (.simulationFailure (.NotImplemented "test" 71))) ∧
    (∀ (w : Bool) (imm : Word),
      exec (.testImmAcc w imm) st = .refused (.simulationFailure (.NotImplemented "test" 72))) ∧
    (∀ (d w : Bool) (reg : RegName) (rm : RMOperand),
      exec (.orRmReg d w reg rm) st = .refused (.simulationFailure (.NotImplemented "or" 73))) ∧
    (∀ (s w : Bool) (rm : RMOperand) (imm : Word),
      exec (.orImmRm s w rm imm) st = .refused (.simulationFailure (.NotImplemented "or" 74))) ∧
    (∀ (w : Bool) (imm : Word), exec (.orImmAcc w imm) st = .refused (.simulationFailure (.NotImplemented "or" 75))) ∧
    (∀ (d w : Bool) (reg : RegName) (rm : RMOperand),
      exec (.xorRmReg d w reg rm) st = .refused (.simulationFailure (.NotImplemented "xor" 76))) ∧
    (∀ (s w : Bool) (rm : RMOperand) (imm : Word),
      exec (.xorImmRm s w rm imm) st = .refused (.simulationFailure (.NotImplemented "xor" 77))) ∧
    (∀ (w : Bool) (imm : Word),
      exec (.xorImmAcc w imm) st = .refused (.simulationFailure (.NotImplemented "xor" 78)))

/-- Each of the 7 string types that are not simulated stops with NotImplemented and its own mnemonic and tag
(46_string.md R410 to R416; 42_execution_unit.md R200). -/
def Obligations.StringTypesNotSimulated : Prop :=
  ∀ st : State,
    (exec .rep st = .refused (.simulationFailure (.NotImplemented "rep" 79))) ∧
    (exec .repne st = .refused (.simulationFailure (.NotImplemented "repne" 80))) ∧
    (∀ (w : Bool), exec (.movs w) st = .refused (.simulationFailure (.NotImplemented "movs" 81))) ∧
    (∀ (w : Bool), exec (.cmps w) st = .refused (.simulationFailure (.NotImplemented "cmps" 82))) ∧
    (∀ (w : Bool), exec (.scas w) st = .refused (.simulationFailure (.NotImplemented "scas" 83))) ∧
    (∀ (w : Bool), exec (.lods w) st = .refused (.simulationFailure (.NotImplemented "lods" 84))) ∧
    (∀ (w : Bool), exec (.stos w) st = .refused (.simulationFailure (.NotImplemented "stos" 85)))

/-- Each of the 32 control transfer types that are not simulated stops with NotImplemented and its own mnemonic and tag
(47_control_transfer.md R431 to R462; 42_execution_unit.md R200). -/
def Obligations.ControlTransferTypesNotSimulated : Prop :=
  ∀ st : State,
    (∀ (rm : RMOperand), exec (.callInd rm) st = .refused (.simulationFailure (.NotImplemented "call" 86))) ∧
    (∀ (rm : RMOperand), exec (.callFarInd rm) st = .refused (.simulationFailure (.NotImplemented "call far" 87))) ∧
    (∀ (rm : RMOperand), exec (.jmpInd rm) st = .refused (.simulationFailure (.NotImplemented "jmp" 88))) ∧
    (∀ (rm : RMOperand), exec (.jmpFarInd rm) st = .refused (.simulationFailure (.NotImplemented "jmp far" 89))) ∧
    (exec .ret st = .refused (.simulationFailure (.NotImplemented "ret" 90))) ∧
    (∀ (imm : Word), exec (.retImm imm) st = .refused (.simulationFailure (.NotImplemented "ret" 91))) ∧
    (exec .retf st = .refused (.simulationFailure (.NotImplemented "retf" 92))) ∧
    (∀ (imm : Word), exec (.retfImm imm) st = .refused (.simulationFailure (.NotImplemented "retf" 93))) ∧
    (∀ (disp : Byte), exec (.je disp) st = .refused (.simulationFailure (.NotImplemented "je" 94))) ∧
    (∀ (disp : Byte), exec (.jl disp) st = .refused (.simulationFailure (.NotImplemented "jl" 95))) ∧
    (∀ (disp : Byte), exec (.jle disp) st = .refused (.simulationFailure (.NotImplemented "jle" 96))) ∧
    (∀ (disp : Byte), exec (.jb disp) st = .refused (.simulationFailure (.NotImplemented "jb" 97))) ∧
    (∀ (disp : Byte), exec (.jbe disp) st = .refused (.simulationFailure (.NotImplemented "jbe" 98))) ∧
    (∀ (disp : Byte), exec (.jp disp) st = .refused (.simulationFailure (.NotImplemented "jp" 99))) ∧
    (∀ (disp : Byte), exec (.jo disp) st = .refused (.simulationFailure (.NotImplemented "jo" 100))) ∧
    (∀ (disp : Byte), exec (.js disp) st = .refused (.simulationFailure (.NotImplemented "js" 101))) ∧
    (∀ (disp : Byte), exec (.jne disp) st = .refused (.simulationFailure (.NotImplemented "jne" 102))) ∧
    (∀ (disp : Byte), exec (.jnl disp) st = .refused (.simulationFailure (.NotImplemented "jnl" 103))) ∧
    (∀ (disp : Byte), exec (.jnle disp) st = .refused (.simulationFailure (.NotImplemented "jg" 104))) ∧
    (∀ (disp : Byte), exec (.jnb disp) st = .refused (.simulationFailure (.NotImplemented "jnb" 105))) ∧
    (∀ (disp : Byte), exec (.jnbe disp) st = .refused (.simulationFailure (.NotImplemented "ja" 106))) ∧
    (∀ (disp : Byte), exec (.jnp disp) st = .refused (.simulationFailure (.NotImplemented "jnp" 107))) ∧
    (∀ (disp : Byte), exec (.jno disp) st = .refused (.simulationFailure (.NotImplemented "jno" 108))) ∧
    (∀ (disp : Byte), exec (.jns disp) st = .refused (.simulationFailure (.NotImplemented "jns" 109))) ∧
    (∀ (disp : Byte), exec (.loop disp) st = .refused (.simulationFailure (.NotImplemented "loop" 110))) ∧
    (∀ (disp : Byte), exec (.loopz disp) st = .refused (.simulationFailure (.NotImplemented "loopz" 111))) ∧
    (∀ (disp : Byte), exec (.loopnz disp) st = .refused (.simulationFailure (.NotImplemented "loopnz" 112))) ∧
    (∀ (disp : Byte), exec (.jcxz disp) st = .refused (.simulationFailure (.NotImplemented "jcxz" 113))) ∧
    (∀ (imm : Byte), exec (.int imm) st = .refused (.simulationFailure (.NotImplemented "int" 114))) ∧
    (exec .int3 st = .refused (.simulationFailure (.NotImplemented "int3" 115))) ∧
    (exec .into st = .refused (.simulationFailure (.NotImplemented "into" 116))) ∧
    (exec .iret st = .refused (.simulationFailure (.NotImplemented "iret" 117)))

/-- Each of the 10 processor control types that are not simulated stops with NotImplemented and its own mnemonic and tag
(48_processor_control.md R480 to R489; 42_execution_unit.md R200). -/
def Obligations.ProcessorControlTypesNotSimulated : Prop :=
  ∀ st : State,
    (exec .clc st = .refused (.simulationFailure (.NotImplemented "clc" 118))) ∧
    (exec .cmc st = .refused (.simulationFailure (.NotImplemented "cmc" 119))) ∧
    (exec .stc st = .refused (.simulationFailure (.NotImplemented "stc" 120))) ∧
    (exec .cld st = .refused (.simulationFailure (.NotImplemented "cld" 121))) ∧
    (exec .std st = .refused (.simulationFailure (.NotImplemented "std" 122))) ∧
    (exec .cli st = .refused (.simulationFailure (.NotImplemented "cli" 123))) ∧
    (exec .sti st = .refused (.simulationFailure (.NotImplemented "sti" 124))) ∧
    (exec .hlt st = .refused (.simulationFailure (.NotImplemented "hlt" 125))) ∧
    (exec .wait st = .refused (.simulationFailure (.NotImplemented "wait" 126))) ∧
    (exec .lock st = .refused (.simulationFailure (.NotImplemented "lock" 127)))

/-- The meaning of each of the nine refused forms is the decoder's NotDispatched failure (30_encoding.md R84). Rests on
a choice of the model: log 8. -/
def Obligations.RefusedFormsStop : Prop :=
  ∀ (s : State) (x : BitVec 3) (sr : SegReg) (imm : Byte),
    exec .callNear s = .refused (.decodeFailure ⟨.NotDispatched, s.dec.cursor, 0xE8, none⟩) ∧
    exec .callFar s = .refused (.decodeFailure ⟨.NotDispatched, s.dec.cursor, 0x9A, none⟩) ∧
    exec .jmpNear s = .refused (.decodeFailure ⟨.NotDispatched, s.dec.cursor, 0xE9, none⟩) ∧
    exec .jmpShort s = .refused (.decodeFailure ⟨.NotDispatched, s.dec.cursor, 0xEB, none⟩) ∧
    exec .jmpFar s = .refused (.decodeFailure ⟨.NotDispatched, s.dec.cursor, 0xEA, none⟩) ∧
    exec (.esc x) s = .refused (.decodeFailure ⟨.NotDispatched, s.dec.cursor, 0xD8 + x.setWidth 8, none⟩) ∧
    exec (.segment sr) s = .refused (.decodeFailure ⟨.NotDispatched, s.dec.cursor,
      (match sr with | .ES => 0x26 | .CS => 0x2E | .SS => 0x36 | .DS => 0x3E), none⟩) ∧
    exec (.aamBase imm) s = .refused (.decodeFailure ⟨.NotDispatched, s.dec.cursor, 0xD4, some imm⟩) ∧
    exec (.aadBase imm) s = .refused (.decodeFailure ⟨.NotDispatched, s.dec.cursor, 0xD5, some imm⟩)

/-- No instruction, and no record that the decoder builds, causes a contract violation (42_execution_unit.md R222;
60_exceptions.md R515). -/
def Obligations.DecodedInstructionsNeverFault : Prop :=
  (∀ (i : Instr) (s : State) (f : Fault), exec i s ≠ .fault f) ∧
  (∀ (i : Instr) (p : Nat) (I : Record) (s : State) (f : Fault), i.record p = some I → simulateInstruction I s ≠ .fault f)

/-- Records built by hand cause the four reachable contract violations (42_execution_unit.md R192, R193, R222;
60_exceptions.md R515). Rests on a choice of the model: log 14. -/
def Obligations.HandBuiltRecordsViolateTheContract : Prop :=
  ∀ (s : State) (n : Nat) (wide : Bool) (r : RegName) (v : Word) (a b : Bool) (t : Int),
    simulateInstruction ⟨.MOV_RM_REG, n, wide, some (.Immediate v a b), some (.Register r)⟩ s = .fault .WriteImmediate ∧
    simulateInstruction ⟨.MOV_RM_REG, n, wide, some (.JumpLabel t), some (.Register r)⟩ s = .fault .WriteLabel ∧
    simulateInstruction ⟨.MOV_RM_REG, n, wide, some (.Register r), some (.JumpLabel t)⟩ s = .fault .ReadLabel ∧
    ∀ I : Record, I.type.execOp.isSome = true → I.hasMemory = false → (I.dst = none ∨ I.src = none) →
      simulateInstruction I s = .fault .MissingOperand

/-- CF, AF and OF are never set: false at reset, cleared by SUB and CMP, kept by everything else (42_execution_unit.md
R196). -/
def Obligations.CarryFlagsNeverSet : Prop :=
  FlagsClean State.reset.ctx ∧
  (∀ (I : Record) (s t : State), simulateInstruction I s = .next t →
    (I.type ∈ [InstrType.SUB_RM_REG, .SUB_IMM_RM, .CMP_RM_REG, .CMP_IMM_RM] → FlagsClean t.ctx) ∧
    (I.type ∉ [InstrType.SUB_RM_REG, .SUB_IMM_RM, .CMP_RM_REG, .CMP_IMM_RM] →
      t.ctx.F.CF = s.ctx.F.CF ∧ t.ctx.F.AF = s.ctx.F.AF ∧ t.ctx.F.OF = s.ctx.F.OF)) ∧
  (∀ (name : RegName) (v : Int) (s : State), (setRegister name v s).ctx.F = s.ctx.F) ∧
  (∀ s t : State, FlagsClean s.ctx → step s = .next t → FlagsClean t.ctx) ∧
  (∀ (name : RegName) (v : Int) (s : State), FlagsClean s.ctx → FlagsClean (setRegister name v s).ctx)

/-- Only ADD, SUB and CMP records write flags, and only MOV, ADD and SUB records write registers (10_state.md R27, R31;
42_execution_unit.md R199). -/
def Obligations.OnlyListedTypesWriteFlagsAndRegisters : Prop :=
  ∀ (I : Record) (s t : State), simulateInstruction I s = .next t →
    (I.type ∉ [InstrType.ADD_RM_REG, .ADD_IMM_RM, .SUB_RM_REG, .SUB_IMM_RM, .CMP_RM_REG, .CMP_IMM_RM] →
      t.ctx.F = s.ctx.F) ∧
    (I.type ∉ [InstrType.MOV_IMM_REG, .MOV_RM_REG, .MOV_RM_SR, .MOV_SR_RM, .ADD_RM_REG, .ADD_IMM_RM, .SUB_RM_REG,
      .SUB_IMM_RM] → t.ctx.regs = s.ctx.regs) ∧
    I.type ∈ [InstrType.MOV_IMM_REG, .MOV_RM_REG, .MOV_RM_SR, .MOV_SR_RM, .ADD_RM_REG, .ADD_IMM_RM, .SUB_RM_REG,
      .SUB_IMM_RM, .CMP_RM_REG, .CMP_IMM_RM]

/-- No step reads a flag: with other flags it has the same outcome on everything but the flags (10_state.md R31). -/
def Obligations.NoStepReadsAFlag : Prop :=
  ∀ (s : State) (F : Flags), SameOutcome (fun t u => u = t.withFlags u.ctx.F) (step s) (step (s.withFlags F))

/-- ip does not select what a step runs: with another ip it has the same outcome, and ip moves by the same amount
(10_state.md R32; 70_reset_and_hazards.md R554). -/
def Obligations.InstructionPointerDoesNotSelect : Prop :=
  ∀ (s : State) (v : Word),
    SameOutcome (fun t u => u = t.withIp u.ctx.ip ∧ u.ctx.ip - v = t.ctx.ip - s.ctx.ip) (step s) (step (s.withIp v))

/-- ip advances by the size of each completed instruction, modulo 2^16, when IP_ADVANCES is true (10_state.md R33;
42_execution_unit.md R215 to R217; 60_exceptions.md R515, R516). Rests on a choice of the model: log 6, the clause
on a contract violation. -/
def Obligations.InstructionPointerAdvance : Prop :=
  (∀ (I : Record) (s t : State), simulateInstruction I s = .next t →
    (s.params.ipAdvances = true → t.ctx.ip.toNat = (s.ctx.ip.toNat + I.size) % 65536) ∧
    (s.params.ipAdvances = false → t.ctx.ip = s.ctx.ip)) ∧
  (∀ s t : State, s.params.ipAdvances = false → step s = .next t → t.ctx.ip = s.ctx.ip) ∧
  State.reset.ctx.ip = 0 ∧
  (∀ (I : Record) (rest : List Record) (s : State),
    (∀ r, simulateInstruction I s = .refused r → simulate (I :: rest) s = .returned s (some r)) ∧
    (∀ f, simulateInstruction I s = .fault f → simulate (I :: rest) s = .violation f))

/-- A run ends after its last record with no failure, or at the first record that fails, with no effect of it
(70_reset_and_hazards.md R558; 60_exceptions.md R515, R516). Rests on a choice of the model: log 6, the reading of
R516 in the third case. -/
def Obligations.RunStopsAtFirstFailure : Prop :=
  (∀ (seq : List Record) (s : State),
    ∃ (states : List State) (t : State), states.head? = some s ∧ states.getLast? = some t ∧
      (∀ k a b, states[k]? = some a → states[k + 1]? = some b →
        ∃ I, seq[k]? = some I ∧ simulateInstruction I a = .next b) ∧
      ((states.length = seq.length + 1 ∧ simulate seq s = .returned t none) ∨
        ∃ I, seq[states.length - 1]? = some I ∧
          ((∃ r, simulateInstruction I t = .refused r ∧ simulate seq s = .returned t (some r)) ∨
            ∃ f, simulateInstruction I t = .fault f ∧ simulate seq s = .violation f))) ∧
  (∀ (rest : List Record) (s : State), simulate (⟨.HLT, 1, false, none, none⟩ :: rest) s =
    .returned s (some (.simulationFailure (.NotImplemented "hlt" 125))))

/-- ip at the end of a run is the start value plus the sizes of the executed records, modulo 2^16
(70_reset_and_hazards.md R559). -/
def Obligations.FinalInstructionPointer : Prop :=
  (∀ (seq : List Record) (s t : State) (f : Option Refusal), simulate seq s = .returned t f →
    ∃ k, k ≤ seq.length ∧ (f = none → k = seq.length) ∧
      (∀ r, f = some r → ∃ I, seq[k]? = some I ∧ simulateInstruction I t = .refused r) ∧
      simulate (seq.take k) s = .returned t none ∧
      (s.params.ipAdvances = true → t.ctx.ip = s.ctx.ip + BitVec.ofNat 16 (totalSize (seq.take k))) ∧
      (s.params.ipAdvances = false → t.ctx.ip = s.ctx.ip)) ∧
  (∀ (stream : List Byte) (s : State), FreshContext s.ctx → s.params.ipAdvances = true → DecodeOk stream →
    NoFailureRecorded (simulate (decodePass stream).seq s) →
    ∃ t, (simulate (decodePass stream).seq s).final = some t ∧ t.ctx.ip = BitVec.ofNat 16 stream.length)

/-- Where the bytes at the cursor decode, a step is exec of that instruction, then the emission of its record
(40_decoder.md R140; 42_execution_unit.md R198, R216). Rests on a choice of the model: log 3. -/
def Obligations.StepRunsTheDecodedInstruction : Prop :=
  ∀ (s : State) (i : Instr) (rest : List Byte), s.dec.seq[s.pos]? = none → s.dec.status = .Running →
    decode (s.stream.drop s.dec.cursor) = .ok (i, rest) →
    ∃ I, i.record s.dec.cursor = some I ∧
      step s = (match exec i s with
        | .next t => .next { t with
            dec := { cursor := t.dec.cursor + i.size, seq := t.dec.seq ++ [I], labels := labelsAfter I t.dec.labels,
                     status := t.dec.status }
            pos := t.pos + 1 }
        | .fault f => .fault f
        | .refused r => .refused r)

/-- Where a decoded record waits, a step is the execution unit's step on it, and the run moves one record on
(42_execution_unit.md R216, R218). Rests on a choice of the model: log 3. -/
def Obligations.StepRunsTheWaitingRecord : Prop :=
  ∀ (s : State) (I : Record), s.dec.seq[s.pos]? = some I →
    step s = (match simulateInstruction I s with
      | .next t => .next { t with pos := t.pos + 1 }
      | .fault f => .fault f
      | .refused r => .refused r)

/-- With no record waiting, a step at the stream's end ends the pass, a finished run stays, and a failed pass stops
(40_decoder.md R140, R148; 70_reset_and_hazards.md R557, R558). Rests on a choice of the model: log 23 (Done in a
step of its own), log 6 (a step refuses and does not set Failed), log 4 (a step after the end). -/
def Obligations.StepAtTheEndOfThePass : Prop :=
  ∀ s : State, s.dec.seq[s.pos]? = none →
    (s.dec.status = .Running → s.stream.drop s.dec.cursor = [] →
      step s = .next { s with dec := { s.dec with status := .Done } }) ∧
    (∀ reason b1 b2, s.dec.status = .Running →
      decode (s.stream.drop s.dec.cursor) = .error (.failure reason b1 b2) →
      step s = .refused (.decodeFailure ⟨reason, s.dec.cursor, b1, b2⟩)) ∧
    (s.dec.status = .Done → step s = .next s) ∧
    (∀ f, s.dec.status = .Failed f → step s = .refused (.decodeFailure f))

/-- The reset state meets the machine's invariant (70_reset_and_hazards.md R550, R552). -/
def Obligations.ResetMeetsTheInvariant : Prop :=
  State.Inv State.reset

/-- Every step keeps the machine's invariant, from every state that meets it (40_decoder.md R140, R150, R152;
42_execution_unit.md R196, R197; 70_reset_and_hazards.md R557). -/
def Obligations.StepKeepsTheInvariant : Prop :=
  ∀ s t : State, s.Inv → step s = .next t → t.Inv

/-- From a state that meets the invariant no step is a contract violation (42_execution_unit.md R222; 60_exceptions.md
R515). -/
def Obligations.StepNeverFaultsUnderTheInvariant : Prop :=
  ∀ (s : State) (f : Fault), s.Inv → step s ≠ .fault f

/-- Stepping a machine from the start of a pass is decoding the whole stream and then simulating its records
(40_decoder.md R140; 42_execution_unit.md R216, R217; 70_reset_and_hazards.md R555, R556, R557, R558). Rests on a
choice of the model: log 3, log 4 and log 23, how the steps interleave and end. -/
def Obligations.StepsRefineDecodeThenSimulate : Prop :=
  ∀ s : State, s.dec = Decoder.reset → s.pos = 0 →
    (∀ (k : Nat) (t : State), k ≤ (decodePass s.stream).seq.length →
      simulate ((decodePass s.stream).seq.take k) s = .returned t none →
      ∃ d : Decoder, d.seq = (decodePass s.stream).seq.take k ∧
        Host.Core.run Sys2Proof.core k s = .next { t with dec := d, pos := k }) ∧
    (∀ t : State, simulate (decodePass s.stream).seq s = .returned t none → DecodeOk s.stream →
      Host.Core.run Sys2Proof.core ((decodePass s.stream).seq.length + 1) s =
        .next { t with dec := decodePass s.stream, pos := (decodePass s.stream).seq.length } ∧
      State.Ended { t with dec := decodePass s.stream, pos := (decodePass s.stream).seq.length }) ∧
    (∀ f : DecodeFailure, NoFailureRecorded (simulate (decodePass s.stream).seq s) →
      (decodePass s.stream).status = .Failed f →
      Host.Core.run Sys2Proof.core ((decodePass s.stream).seq.length + 1) s = .refused (.decodeFailure f)) ∧
    (∀ (t : State) (r : Refusal), simulate (decodePass s.stream).seq s = .returned t (some r) →
      Host.Core.run Sys2Proof.core (decodePass s.stream).seq.length s = .refused r) ∧
    (∀ f : Fault, simulate (decodePass s.stream).seq s ≠ .violation f)

/-- Stepping through a list decoded ahead is the run Simulate of that list (42_execution_unit.md R216, R218;
60_exceptions.md R515, R516; 70_reset_and_hazards.md R555, R556, R558). Rests on a choice of the model: log 3. -/
def Obligations.StepsOfADecodedList : Prop :=
  ∀ s : State, s.pos = 0 →
    (∀ t : State, simulate s.dec.seq s = .returned t none →
      Host.Core.run Sys2Proof.core s.dec.seq.length s = .next { t with pos := s.dec.seq.length }) ∧
    (∀ (t : State) (r : Refusal), simulate s.dec.seq s = .returned t (some r) →
      Host.Core.run Sys2Proof.core s.dec.seq.length s = .refused r) ∧
    (∀ f : Fault, simulate s.dec.seq s = .violation f →
      Host.Core.run Sys2Proof.core s.dec.seq.length s = .fault f) ∧
    (s.dec.status ≠ .Running →
      (NoFailureRecorded (simulate s.dec.seq s) ↔
        ∃ u : State, Host.Core.run Sys2Proof.core s.dec.seq.length s = .next u ∧ u.Ended))

/-- Rendering writes the directive, each record's line in order, and after it the next pending label's line once the
offset reaches it (41_renderer.md R170, R171, R172). -/
def Obligations.RenderShape : Prop :=
  (∀ (seq : List Record) (labels : List Int), ∃ k : Nat → Nat, k 0 = 0 ∧ render (seq.take 0) labels = ["bits 16"] ∧
    ∀ n I, seq[n]? = some I →
      (∀ l, labels[k n]? = some l → l ≤ totalSize (seq.take (n + 1)) →
        k (n + 1) = k n + 1 ∧
        render (seq.take (n + 1)) labels = render (seq.take n) labels ++ [recordText I, "label_" ++ decText l ++ ":"]) ∧
      ((∀ l, labels[k n]? = some l → totalSize (seq.take (n + 1)) < l) →
        k (n + 1) = k n ∧
        render (seq.take (n + 1)) labels = render (seq.take n) labels ++ [recordText I])) ∧
  (∀ seq : List Record, render seq [] = "bits 16" :: seq.map recordText) ∧
  (∀ (seq : List Record) (labels : List Int),
    List.Sublist ("bits 16" :: seq.map recordText) (render seq labels) ∧
    (render seq labels).length ≤ seq.length + 1 + min seq.length labels.length)

end
end

