-- ==== Sys2Proof/Laws/Registers.lean ====
section
/-! SUPPORT. The laws of the register file: a read after a write of the same name, of an alias, and of a name that shares
no byte with it (10_state.md R24 to R26). -/

namespace Sys2Proof.Machine

@[simp] theorem setRegByte_get_same (regs : RegFile) (p : Fin 24) (b : Byte) : (setRegByte regs p b).get p = b := by
  simp [setRegByte, Vector.get_eq_getElem]

theorem setRegByte_get_other (regs : RegFile) (p q : Fin 24) (b : Byte) (h : p ≠ q) :
    (setRegByte regs p b).get q = regs.get q := by
  have h' : p.val ≠ q.val := fun e => h (Fin.ext e)
  simp [setRegByte, Vector.get_eq_getElem, h']

theorem regPos_ne_regPosHi (r : RegName) : regPos r ≠ regPosHi r := by cases r <;> decide

/-- A byte of the register file that the written register does not cover keeps its value (10_state.md R25). -/
theorem writeReg_get_other (regs : RegFile) (r : RegName) (v : Word) (q : Fin 24) (h : regPos r ≠ q)
    (h' : r.isByte = false → regPosHi r ≠ q) : (writeReg regs r v).get q = regs.get q := by
  unfold writeReg
  split
  · exact setRegByte_get_other _ _ _ _ h
  · rename_i hb
    rw [setRegByte_get_other _ _ _ _ (h' (by simpa using hb)), setRegByte_get_other _ _ _ _ h]

theorem writeReg_get_low (regs : RegFile) (r : RegName) (v : Word) :
    (writeReg regs r v).get (regPos r) = v.setWidth 8 := by
  unfold writeReg
  split
  · simp
  · rw [setRegByte_get_other _ _ _ _ (regPos_ne_regPosHi r).symm, setRegByte_get_same]

theorem writeReg_get_high (regs : RegFile) (r : RegName) (v : Word) (h : r.isByte = false) :
    (writeReg regs r v).get (regPosHi r) = v.extractLsb' 8 8 := by
  simp [writeReg, h]

/-- The two halves of a word assemble to the word. -/
@[simp] theorem le16_halves (v : Word) : le16 (v.setWidth 8) (v.extractLsb' 8 8) = v := by
  apply BitVec.eq_of_getLsbD_eq
  intro i hi
  simp only [le16, BitVec.getLsbD_append, BitVec.getLsbD_setWidth, BitVec.getLsbD_extractLsb']
  by_cases h : i < 8
  · simp [h]
  · simp [h, show i - 8 < 8 by omega, show 8 + (i - 8) = i by omega]

/-- A read of a written register gives the value, reduced to the register's width (10_state.md R24, R25). -/
@[simp] theorem readReg_writeReg_same (regs : RegFile) (r : RegName) (v : Word) :
    readReg (writeReg regs r v) r = truncTo (!r.isByte) v := by
  unfold readReg
  cases h : r.isByte
  · simp [truncTo, writeReg_get_low, writeReg_get_high _ _ _ h]
  · simp [truncTo, writeReg_get_low]

/-- Names that share no byte sit at different positions. -/
theorem positions_disjoint {r q : RegName} (h : sharesByte r q = false) :
    regPos r ≠ regPos q ∧ (r.isByte = false → regPosHi r ≠ regPos q) ∧ (q.isByte = false → regPos r ≠ regPosHi q) ∧
      (r.isByte = false → q.isByte = false → regPosHi r ≠ regPosHi q) := by
  revert h
  cases r <;> cases q <;> decide

/-- A write leaves every register alone that shares no byte with the written one (10_state.md R25). -/
theorem readReg_writeReg_other (regs : RegFile) (r q : RegName) (v : Word) (h : sharesByte r q = false) :
    readReg (writeReg regs r v) q = readReg regs q := by
  obtain ⟨h1, h2, h3, h4⟩ := positions_disjoint h
  unfold readReg
  cases hq : q.isByte
  · simp only [Bool.false_eq_true, if_false]
    rw [writeReg_get_other _ _ _ _ h1 h2, writeReg_get_other _ _ _ _ (h3 hq) fun hr => h4 hr hq]
  · simp only [if_true]
    rw [writeReg_get_other _ _ _ _ h1 h2]

/-- A value read from an 8-bit register fits in a byte. -/
@[simp] theorem truncTo_readReg (regs : RegFile) (r : RegName) :
    truncTo (!r.isByte) (readReg regs r) = readReg regs r := by
  unfold readReg truncTo
  cases h : r.isByte <;> simp [BitVec.setWidth_setWidth_of_le]

@[simp] theorem truncTo_truncTo (w : Bool) (v : Word) : truncTo w (truncTo w v) = truncTo w v := by
  cases w <;> simp [truncTo, BitVec.setWidth_setWidth_of_le]

/-- A write reduces its value to the register's width by itself. -/
@[simp] theorem writeReg_truncTo (regs : RegFile) (r : RegName) (v : Word) :
    writeReg regs r (truncTo (!r.isByte) v) = writeReg regs r v := by
  unfold writeReg truncTo
  cases h : r.isByte <;> simp [BitVec.setWidth_setWidth_of_le]

/-- A read after the host's SetRegister (42_execution_unit.md R219, R220). -/
theorem getRegister_setRegister (name : RegName) (v : Int) (s : State) :
    getRegister name (setRegister name v s) = truncTo (!name.isByte) (BitVec.ofInt 16 v) :=
  readReg_writeReg_same _ _ _

@[simp] theorem readReg_reset (r : RegName) : readReg Context.reset.regs r = 0 := by cases r <;> decide

end Sys2Proof.Machine
end

