-- ==== Sys2Proof/Laws/Encoding.lean ====
section
/-! SUPPORT. The laws of the encoding's parts: each field reads back what was put into it (30_encoding.md R72, R78 to
R83). -/

namespace Sys2Proof

/-! ## Register fields -/

theorem regName_regCode (w : Bool) (r : RegName) (h : wfReg w r = true) : regName (regCode r) w = r := by
  revert h
  cases w <;> cases r <;> decide

@[simp] theorem sregName_code (sr : SegReg) : sregName sr.code = sr := by cases sr <;> decide

theorem wfReg_regName (f : BitVec 3) (w : Bool) : wfReg w (regName f w) = true := by
  revert f
  cases w <;> decide

theorem regCode_regName (f : BitVec 3) (w : Bool) : regCode (regName f w) = f := by
  revert f
  cases w <;> decide

/-! ## The mod/reg/rm byte -/

@[simp] theorem b2Mod_modRegRm (m : BitVec 2) (g e : BitVec 3) : b2Mod (modRegRm m g e) = m := by
  revert m g e; decide

@[simp] theorem b2Reg_modRegRm (m : BitVec 2) (g e : BitVec 3) : b2Reg (modRegRm m g e) = g := by
  revert m g e; decide

@[simp] theorem b2Rm_modRegRm (m : BitVec 2) (g e : BitVec 3) : b2Rm (modRegRm m g e) = e := by
  revert m g e; decide

@[simp] theorem b2Sr_modRegRm (m : BitVec 2) (f : BitVec 2) (e : BitVec 3) :
    b2Sr (modRegRm m (f.setWidth 3) e) = f := by
  revert m f e; decide

/-- Every byte is the mod/reg/rm byte of its fields. -/
theorem modRegRm_fields (b2 : Byte) : modRegRm (b2Mod b2) (b2Reg b2) (b2Rm b2) = b2 := by
  revert b2; decide

/-! ## The address-calculation table -/

@[simp] theorem eaTag_mod_rm (t : EATag) : eaTag t.mod t.rm = t := by cases t <;> decide

theorem EATag.mod_ne_three (t : EATag) : t.mod ≠ 3 := by cases t <;> decide

theorem eaTag_fields (m : BitVec 2) (e : BitVec 3) (h : m ≠ 3) : (eaTag m e).mod = m ∧ (eaTag m e).rm = e := by
  revert m e; decide

theorem EATag.dispBytes_le (t : EATag) : t.dispBytes ≤ 2 := by cases t <;> decide

theorem RMOperand.dispBytes_le (rm : RMOperand) : rm.dispBytes ≤ 2 := by
  cases rm with
  | reg r => exact Nat.zero_le _
  | mem ea => exact EATag.dispBytes_le ea.tag

/-! ## Displacements and immediates -/

theorem encDisp_length (n : Nat) (disp : Word) (h : n ≤ 2) : (encDisp n disp).length = n := by
  match n, h with
  | 0, _ => rfl
  | 1, _ => rfl
  | 2, _ => rfl

theorem encImm_length (wide : Bool) (imm : Word) : (encImm wide imm).length = immBytes wide := by cases wide <;> rfl

theorem encRM_length (reg : BitVec 3) (rm : RMOperand) : (encRM reg rm).length = 1 + rm.dispBytes := by
  cases rm with
  | reg r => rfl
  | mem ea =>
    simp only [encRM, RMOperand.dispBytes, List.length_cons, encDisp_length _ _ (EATag.dispBytes_le ea.tag)]
    omega

theorem readDisp_encDisp (n : Nat) (disp : Word) (rest : List Byte) (hn : n ≤ 2) (h : wfDisp n disp = true) :
    readDisp n (encDisp n disp ++ rest) = some (disp, rest) := by
  match n, hn, h with
  | 0, _, h => simp only [wfDisp, beq_iff_eq] at h; simp [readDisp, encDisp, h]
  | 1, _, h => simp only [wfDisp, fitsByte, beq_iff_eq] at h; simp [readDisp, encDisp, ← h]
  | 2, _, _ => simp [readDisp, encDisp, Machine.le16_halves]

theorem readImm_encImm (wide : Bool) (imm : Word) (rest : List Byte) (h : wfImm wide imm = true) :
    readImm wide (encImm wide imm ++ rest) = some (imm, rest) := by
  cases wide
  · simp only [wfImm, fitsByte, Bool.false_or, beq_iff_eq] at h; simp [readImm, encImm, ← h]
  · simp [readImm, encImm, Machine.le16_halves]

/-- The encoded rm operand reads back, with its b2 in front (30_encoding.md R80 to R82). -/
theorem readRM_encRM (w : Bool) (reg : BitVec 3) (rm : RMOperand) (rest : List Byte) (h : wfRM w rm = true) :
    ∃ b2 bs, encRM reg rm ++ rest = b2 :: bs ∧ b2Reg b2 = reg ∧ readRM w b2 bs = some (rm, rest) := by
  cases rm with
  | reg r => exact ⟨_, _, rfl, by simp, by simp [readRM, regName_regCode w r h]⟩
  | mem ea =>
    refine ⟨modRegRm ea.tag.mod reg ea.tag.rm, encDisp ea.tag.dispBytes ea.disp ++ rest, rfl, by simp, ?_⟩
    have hd := readDisp_encDisp ea.tag.dispBytes ea.disp rest (EATag.dispBytes_le ea.tag) h
    simp only [readRM, b2Mod_modRegRm, b2Rm_modRegRm, if_neg (EATag.mod_ne_three ea.tag), eaTag_mod_rm, hd]

/-! ## Decoding a row -/

/-- Where the classifier gives a row and the row builds an instruction that is no refused form, that is the decoding. -/
theorem decode_of_row {b1 : Byte} {bs r : List Byte} {row : Row} {i : Instr} (hc : classify b1 bs.head? = .ok row)
    (hb : row.kind.build b1 bs = some (i, r)) (hi : i.isRefused = false) : decode (b1 :: bs) = .ok (i, r) := by
  simp [decode, decodeRow, hc, hb, hi]

/-- A first byte that does not inspect b2 is classified by its own key. -/
theorem classify_plain {b1 : Byte} {row : Row} (b2 : Option Byte) (h1 : needsB2 b1 = false)
    (h2 : lookupRow (b1 ++ (0 : Byte)) = some row) : classify b1 b2 = .ok row := by
  simp only [classify, h1, h2]

/-- A first byte that inspects b2 is classified by both. -/
theorem classify_group {b1 b2 : Byte} {row : Row} (h1 : needsB2 b1 = true) (h2 : lookupRow (b1 ++ b2) = some row) :
    classify b1 (some b2) = .ok row := by
  simp only [classify, h1, h2]

/-- A row that every b2 with one reg field matches is found for each of them. -/
theorem lookupRow_of_reg (b1 : Byte) (g : BitVec 3) (row : Row)
    (h : ∀ (m : BitVec 2) (e : BitVec 3), lookupRow (b1 ++ modRegRm m g e) = some row) (b2 : Byte) (hb : b2Reg b2 = g) :
    lookupRow (b1 ++ b2) = some row := by
  rw [← modRegRm_fields b2, hb]
  exact h _ _

/-- A 3-bit field has eight values. -/
theorem forall_field3 (P : BitVec 3 → Prop) (h : P 0 ∧ P 1 ∧ P 2 ∧ P 3 ∧ P 4 ∧ P 5 ∧ P 6 ∧ P 7) (e : BitVec 3) : P e := by
  have he : e = 0 ∨ e = 1 ∨ e = 2 ∨ e = 3 ∨ e = 4 ∨ e = 5 ∨ e = 6 ∨ e = 7 := by revert e; decide
  rcases he with rfl | rfl | rfl | rfl | rfl | rfl | rfl | rfl <;> simp_all

/-- A 2-bit field has four values. -/
theorem forall_field2 (P : BitVec 2 → Prop) (h : P 0 ∧ P 1 ∧ P 2 ∧ P 3) (e : BitVec 2) : P e := by
  have he : e = 0 ∨ e = 1 ∨ e = 2 ∨ e = 3 := by revert e; decide
  rcases he with rfl | rfl | rfl | rfl <;> simp_all

/-- The rm operand and what follows it are handed on as they were encoded. -/
theorem withRM_encRM (w : Bool) (reg : BitVec 3) (rm : RMOperand) (rest : List Byte) (h : wfRM w rm = true)
    (k : Byte → RMOperand → List Byte → Option (Instr × List Byte)) :
    ∃ b2, b2Reg b2 = reg ∧ (encRM reg rm ++ rest).head? = some b2 ∧
      withRM w (encRM reg rm ++ rest) k = k b2 rm rest := by
  obtain ⟨b2, bs, h1, h2, h3⟩ := readRM_encRM w reg rm rest h
  refine ⟨b2, h2, by rw [h1]; rfl, ?_⟩
  rw [h1]
  simp [withRM, h3]

theorem withImm_encImm (wide : Bool) (imm : Word) (rest : List Byte) (h : wfImm wide imm = true)
    (k : Word → List Byte → Option (Instr × List Byte)) : withImm wide (encImm wide imm ++ rest) k = k imm rest := by
  simp only [withImm, readImm_encImm wide imm rest h]

end Sys2Proof
end

