-- ==== Sys2Proof/Laws/State.lean ====
section
/-! SUPPORT. What each state update does to each field: one lemma per field per update, each true by unfolding. -/

namespace Sys2Proof.Machine

/-! ## Replacing the register file -/

@[simp] theorem State.withRegs_ctx_regs (s : State) (regs : RegFile) : (s.withRegs regs).ctx.regs = regs := rfl
@[simp] theorem State.withRegs_ctx_F (s : State) (regs : RegFile) : (s.withRegs regs).ctx.F = s.ctx.F := rfl
@[simp] theorem State.withRegs_ctx_ip (s : State) (regs : RegFile) : (s.withRegs regs).ctx.ip = s.ctx.ip := rfl
@[simp] theorem State.withRegs_ctx_mem (s : State) (regs : RegFile) : (s.withRegs regs).ctx.mem = s.ctx.mem := rfl
@[simp] theorem State.withRegs_dec (s : State) (regs : RegFile) : (s.withRegs regs).dec = s.dec := rfl
@[simp] theorem State.withRegs_pos (s : State) (regs : RegFile) : (s.withRegs regs).pos = s.pos := rfl
@[simp] theorem State.withRegs_stream (s : State) (regs : RegFile) : (s.withRegs regs).stream = s.stream := rfl
@[simp] theorem State.withRegs_params (s : State) (regs : RegFile) : (s.withRegs regs).params = s.params := rfl

/-! ## Replacing the flags -/

@[simp] theorem State.withFlags_ctx_regs (s : State) (F : Flags) : (s.withFlags F).ctx.regs = s.ctx.regs := rfl
@[simp] theorem State.withFlags_ctx_F (s : State) (F : Flags) : (s.withFlags F).ctx.F = F := rfl
@[simp] theorem State.withFlags_ctx_ip (s : State) (F : Flags) : (s.withFlags F).ctx.ip = s.ctx.ip := rfl
@[simp] theorem State.withFlags_ctx_mem (s : State) (F : Flags) : (s.withFlags F).ctx.mem = s.ctx.mem := rfl
@[simp] theorem State.withFlags_dec (s : State) (F : Flags) : (s.withFlags F).dec = s.dec := rfl
@[simp] theorem State.withFlags_pos (s : State) (F : Flags) : (s.withFlags F).pos = s.pos := rfl
@[simp] theorem State.withFlags_stream (s : State) (F : Flags) : (s.withFlags F).stream = s.stream := rfl
@[simp] theorem State.withFlags_params (s : State) (F : Flags) : (s.withFlags F).params = s.params := rfl

/-! ## Advancing ip -/

@[simp] theorem State.advance_ctx_regs (s : State) (size : Nat) : (s.advance size).ctx.regs = s.ctx.regs := rfl
@[simp] theorem State.advance_ctx_F (s : State) (size : Nat) : (s.advance size).ctx.F = s.ctx.F := rfl
@[simp] theorem State.advance_ctx_ip (s : State) (size : Nat) : (s.advance size).ctx.ip = advanceIp s.params size s.ctx.ip := rfl
@[simp] theorem State.advance_ctx_mem (s : State) (size : Nat) : (s.advance size).ctx.mem = s.ctx.mem := rfl
@[simp] theorem State.advance_dec (s : State) (size : Nat) : (s.advance size).dec = s.dec := rfl
@[simp] theorem State.advance_pos (s : State) (size : Nat) : (s.advance size).pos = s.pos := rfl
@[simp] theorem State.advance_stream (s : State) (size : Nat) : (s.advance size).stream = s.stream := rfl
@[simp] theorem State.advance_params (s : State) (size : Nat) : (s.advance size).params = s.params := rfl

/-! ## The host's SetRegister -/

@[simp] theorem setRegister_ctx_regs (s : State) (name : RegName) (v : Int) : (setRegister name v s).ctx.regs = writeReg s.ctx.regs name (BitVec.ofInt 16 v) := rfl
@[simp] theorem setRegister_ctx_F (s : State) (name : RegName) (v : Int) : (setRegister name v s).ctx.F = s.ctx.F := rfl
@[simp] theorem setRegister_ctx_ip (s : State) (name : RegName) (v : Int) : (setRegister name v s).ctx.ip = s.ctx.ip := rfl
@[simp] theorem setRegister_ctx_mem (s : State) (name : RegName) (v : Int) : (setRegister name v s).ctx.mem = s.ctx.mem := rfl
@[simp] theorem setRegister_dec (s : State) (name : RegName) (v : Int) : (setRegister name v s).dec = s.dec := rfl
@[simp] theorem setRegister_pos (s : State) (name : RegName) (v : Int) : (setRegister name v s).pos = s.pos := rfl
@[simp] theorem setRegister_stream (s : State) (name : RegName) (v : Int) : (setRegister name v s).stream = s.stream := rfl
@[simp] theorem setRegister_params (s : State) (name : RegName) (v : Int) : (setRegister name v s).params = s.params := rfl

/-! ## The host's Decode call -/

@[simp] theorem State.decodeAll_ctx_regs (s : State) : (s.decodeAll).ctx.regs = s.ctx.regs := rfl
@[simp] theorem State.decodeAll_ctx_F (s : State) : (s.decodeAll).ctx.F = s.ctx.F := rfl
@[simp] theorem State.decodeAll_ctx_ip (s : State) : (s.decodeAll).ctx.ip = s.ctx.ip := rfl
@[simp] theorem State.decodeAll_ctx_mem (s : State) : (s.decodeAll).ctx.mem = s.ctx.mem := rfl
@[simp] theorem State.decodeAll_dec (s : State) : (s.decodeAll).dec = decodePass s.stream := rfl
@[simp] theorem State.decodeAll_pos (s : State) : (s.decodeAll).pos = 0 := rfl
@[simp] theorem State.decodeAll_stream (s : State) : (s.decodeAll).stream = s.stream := rfl
@[simp] theorem State.decodeAll_params (s : State) : (s.decodeAll).params = s.params := rfl

/-! ## Placing a word at the cursor -/

@[simp] theorem State.withFetchWord_ctx_regs (s : State) (nbits w : Nat) : (s.withFetchWord nbits w).ctx.regs = s.ctx.regs := rfl
@[simp] theorem State.withFetchWord_ctx_F (s : State) (nbits w : Nat) : (s.withFetchWord nbits w).ctx.F = s.ctx.F := rfl
@[simp] theorem State.withFetchWord_ctx_ip (s : State) (nbits w : Nat) : (s.withFetchWord nbits w).ctx.ip = s.ctx.ip := rfl
@[simp] theorem State.withFetchWord_ctx_mem (s : State) (nbits w : Nat) : (s.withFetchWord nbits w).ctx.mem = s.ctx.mem := rfl
@[simp] theorem State.withFetchWord_pos (s : State) (nbits w : Nat) : (s.withFetchWord nbits w).pos = s.dec.seq.length := rfl
@[simp] theorem State.withFetchWord_params (s : State) (nbits w : Nat) : (s.withFetchWord nbits w).params = s.params := rfl
@[simp] theorem State.withFetchWord_cursor (s : State) (nbits w : Nat) :
    (s.withFetchWord nbits w).dec.cursor = s.dec.cursor := rfl
@[simp] theorem State.withFetchWord_seq (s : State) (nbits w : Nat) :
    (s.withFetchWord nbits w).dec.seq = s.dec.seq := rfl
@[simp] theorem State.withFetchWord_labels (s : State) (nbits w : Nat) :
    (s.withFetchWord nbits w).dec.labels = s.dec.labels := rfl
@[simp] theorem State.withFetchWord_status (s : State) (nbits w : Nat) :
    (s.withFetchWord nbits w).dec.status = .Running := rfl

/-- The bytes that the decoder reads next are the placed word's. -/
theorem State.withFetchWord_bytes (s : State) (nbits w : Nat) :
    (s.withFetchWord nbits w).stream.drop (s.withFetchWord nbits w).dec.cursor = rowBytes nbits w := by
  have hl : (s.stream.take s.dec.cursor ++ List.replicate (s.dec.cursor - s.stream.length) (0 : Byte)).length =
      s.dec.cursor := by
    simp only [List.length_append, List.length_take, List.length_replicate]
    omega
  have h := List.drop_left' (l₂ := rowBytes nbits w) hl
  simpa [State.withFetchWord] using h

/-! ## Emitting a record -/

@[simp] theorem Decoder.emit_cursor (I : Record) (d : Decoder) : (d.emit I).cursor = d.cursor + I.size := rfl
@[simp] theorem Decoder.emit_seq (I : Record) (d : Decoder) : (d.emit I).seq = d.seq ++ [I] := rfl
@[simp] theorem Decoder.emit_labels (I : Record) (d : Decoder) : (d.emit I).labels = labelsAfter I d.labels := rfl
@[simp] theorem Decoder.emit_status (I : Record) (d : Decoder) : (d.emit I).status = d.status := rfl

@[simp] theorem State.emitted_ctx (t : State) (i : Instr) (p : Nat) : (t.emitted i p).ctx = t.ctx := by
  unfold State.emitted; split <;> rfl
@[simp] theorem State.emitted_stream (t : State) (i : Instr) (p : Nat) : (t.emitted i p).stream = t.stream := by
  unfold State.emitted; split <;> rfl
@[simp] theorem State.emitted_params (t : State) (i : Instr) (p : Nat) : (t.emitted i p).params = t.params := by
  unfold State.emitted; split <;> rfl

/-- An emitted record joins the decode pass, and the run is past it. -/
theorem State.emitted_record (t : State) (i : Instr) (p : Nat) (I : Record) (h : i.record p = some I) :
    t.emitted i p = { t with dec := t.dec.emit I, pos := t.pos + 1 } := by
  simp [State.emitted, h]

/-! ## Reset -/

@[simp] theorem State.reset_ctx : State.reset.ctx = Context.reset := rfl
@[simp] theorem State.reset_dec : State.reset.dec = Decoder.reset := rfl
@[simp] theorem State.reset_pos : State.reset.pos = 0 := rfl
@[simp] theorem State.reset_stream : State.reset.stream = [] := rfl
@[simp] theorem State.reset_params : State.reset.params = Params.default := rfl

/-! ## Outcomes -/

@[simp] theorem Out.andThen_next {α β : Type} (a : α) (k : α → Out β) : Out.andThen (.next a) k = k a := rfl
@[simp] theorem Out.andThen_fault {α β : Type} (f : Fault) (k : α → Out β) : Out.andThen (.fault f) k = .fault f := rfl
@[simp] theorem Out.andThen_refused {α β : Type} (r : Refusal) (k : α → Out β) :
    Out.andThen (.refused r) k = .refused r := rfl

/-- A composed operation answers a value exactly when both parts do. -/
theorem Out.andThen_eq_next {α β : Type} {o : Out α} {k : α → Out β} {b : β} :
    o.andThen k = .next b ↔ ∃ a, o = .next a ∧ k a = .next b := by
  cases o <;> simp [Out.andThen]

/-- A composed operation faults exactly when one part does. -/
theorem Out.andThen_eq_fault {α β : Type} {o : Out α} {k : α → Out β} {f : Fault} :
    o.andThen k = .fault f ↔ o = .fault f ∨ ∃ a, o = .next a ∧ k a = .fault f := by
  cases o <;> simp [Out.andThen]

end Sys2Proof.Machine
end

