-- ==== Sys2Proof/Laws/Execution.lean ====
section
/-! SUPPORT. What each shared operation of the execution unit can do: on register operands it answers one next state, on a
memory operand it fails, and a next state differs from the state before in the Execution Context's registers, flags and
ip alone (42_execution_unit.md R198, R215). -/

namespace Sys2Proof.Machine

/-! ## Operand access -/

@[simp] theorem readLoc_register (regs : RegFile) (I : Record) (r : RegName) (w : Bool) :
    readLoc regs I (.Register r) w = .next (readReg regs r) := rfl
@[simp] theorem readLoc_immediate (regs : RegFile) (I : Record) (v : Word) (a b w : Bool) :
    readLoc regs I (.Immediate v a b) w = .next (truncTo w v) := rfl
@[simp] theorem writeLoc_register (regs : RegFile) (I : Record) (r : RegName) (v : Word) :
    writeLoc regs I (.Register r) v = .next (writeReg regs r v) := rfl
@[simp] theorem locWide_register (r : RegName) : locWide (.Register r) = !r.isByte := rfl
@[simp] theorem operandsOf_two (t : InstrType) (n : Nat) (w : Bool) (d e : DataLocation) :
    operandsOf ⟨t, n, w, some d, some e⟩ = .next (d, e) := rfl

/-- A read of a location changes nothing, and a location that answers a value is a register or an immediate. -/
theorem readLoc_eq_next {regs : RegFile} {I : Record} {loc : DataLocation} {w : Bool} {v : Word}
    (h : readLoc regs I loc w = .next v) :
    (∃ r, loc = .Register r ∧ v = readReg regs r) ∨ ∃ x a b, loc = .Immediate x a b ∧ v = truncTo w x := by
  cases loc <;> simp_all [readLoc, raiseMemoryOperand, raiseSimulation, raiseContract]

/-- The only location that a value can be written to is a register. -/
theorem writeLoc_eq_next {regs regs' : RegFile} {I : Record} {loc : DataLocation} {v : Word}
    (h : writeLoc regs I loc v = .next regs') : ∃ r, loc = .Register r ∧ regs' = writeReg regs r v := by
  cases loc <;> simp_all [writeLoc, raiseMemoryOperand, raiseSimulation, raiseContract]

/-- `operandsOf` answers the two locations of the record. -/
theorem operandsOf_eq_next {I : Record} {d e : DataLocation} (h : operandsOf I = .next (d, e)) :
    I.dst = some d ∧ I.src = some e := by
  unfold operandsOf at h
  split at h <;> simp_all [raiseContract]

/-- A next state past the memory check is one of the operation's. -/
theorem noMemory_eq_next {I : Record} {k : Out State} {t : State} :
    noMemory I k = .next t ↔ I.hasMemory = false ∧ k = .next t := by
  unfold noMemory
  cases I.hasMemory <;> simp [raiseMemoryOperand, raiseSimulation]

/-! ## The three operations on register destinations -/

/-- The value of a source operand at the width `wide`: a register's, or an immediate's reduced one. -/
def sourceValue (regs : RegFile) (wide : Bool) : DataLocation → Word
  | .Register r => readReg regs r
  | .Immediate v _ _ => truncTo wide v
  | .Memory _ _ _ => 0
  | .JumpLabel _ => 0

/-- All that MOV can do when it completes (42_execution_unit.md R198). -/
theorem simMove_cases {I : Record} {s t : State} (h : simMove I s = .next t) :
    ∃ r src, I.dst = some (.Register r) ∧ I.src = some src ∧
      t = (s.withRegs (writeReg s.ctx.regs r (sourceValue s.ctx.regs (!r.isByte) src))).advance I.size := by
  obtain ⟨-, h⟩ := noMemory_eq_next.mp h
  obtain ⟨⟨d, e⟩, ho, h⟩ := Out.andThen_eq_next.mp h
  obtain ⟨v, hv, h⟩ := Out.andThen_eq_next.mp h
  obtain ⟨regs, hw, h⟩ := Out.andThen_eq_next.mp h
  obtain ⟨hd, he⟩ := operandsOf_eq_next ho
  obtain ⟨r, rfl, rfl⟩ := writeLoc_eq_next hw
  refine ⟨r, e, hd, he, ?_⟩
  obtain ⟨q, rfl, rfl⟩ | ⟨x, a, b, rfl, rfl⟩ := readLoc_eq_next hv <;> cases h <;> rfl

/-- All that ADD and SUB can do when they complete (42_execution_unit.md R198, R201, R205, R206). -/
theorem simAlu_cases {op : AluOp} {I : Record} {s t : State} (h : simAlu op I s = .next t) :
    ∃ r src, I.dst = some (.Register r) ∧ I.src = some src ∧
      t = (((s.withRegs (writeReg s.ctx.regs r (aluResult op (!r.isByte) (readReg s.ctx.regs r)
          (sourceValue s.ctx.regs (!r.isByte) src)))).withFlags
        (aluFlags op (flagBasis s.params.byteResultBasis op (!r.isByte) (readReg s.ctx.regs r)
          (sourceValue s.ctx.regs (!r.isByte) src) src) s.ctx.F)).advance I.size) := by
  obtain ⟨-, h⟩ := noMemory_eq_next.mp h
  obtain ⟨⟨d, e⟩, ho, h⟩ := Out.andThen_eq_next.mp h
  obtain ⟨a, ha, h⟩ := Out.andThen_eq_next.mp h
  obtain ⟨b, hb, h⟩ := Out.andThen_eq_next.mp h
  obtain ⟨regs, hw, h⟩ := Out.andThen_eq_next.mp h
  obtain ⟨hd, he⟩ := operandsOf_eq_next ho
  obtain ⟨r, rfl, rfl⟩ := writeLoc_eq_next hw
  refine ⟨r, e, hd, he, ?_⟩
  cases ha
  obtain ⟨q, rfl, rfl⟩ | ⟨x, y, z, rfl, rfl⟩ := readLoc_eq_next hb <;> cases h <;> rfl

/-- All that CMP can do when it completes (44_arithmetic.md R319, R320). -/
theorem simCmp_cases {I : Record} {s t : State} (h : simCmp I s = .next t) :
    t = (s.withFlags Flags.none).advance I.size := by
  obtain ⟨-, h⟩ := noMemory_eq_next.mp h
  obtain ⟨⟨d, e⟩, -, h⟩ := Out.andThen_eq_next.mp h
  obtain ⟨a, -, h⟩ := Out.andThen_eq_next.mp h
  obtain ⟨b, -, h⟩ := Out.andThen_eq_next.mp h
  cases h
  rfl

/-- A record that executes is of a supported type, and its operation gives the state. -/
theorem simulateInstruction_cases {I : Record} {s t : State} (h : simulateInstruction I s = .next t) :
    ∃ op, I.type.execOp = some op ∧ op.run I s = .next t := by
  unfold simulateInstruction at h
  split at h
  · simp [raiseNotImplemented, raiseSimulation] at h
  · exact ⟨_, ‹_›, h⟩

theorem ExecOp.run_frame {op : ExecOp} {I : Record} {s t : State} (h : op.run I s = .next t) :
    Frame I.size s t := by
  cases op with
  | copy => obtain ⟨r, src, -, -, rfl⟩ := simMove_cases h; exact ⟨rfl, fun _ => rfl, rfl, rfl, rfl, rfl, rfl⟩
  | alu op => obtain ⟨r, src, -, -, rfl⟩ := simAlu_cases h; exact ⟨rfl, fun _ => rfl, rfl, rfl, rfl, rfl, rfl⟩
  | compare => obtain rfl := simCmp_cases h; exact ⟨rfl, fun _ => rfl, rfl, rfl, rfl, rfl, rfl⟩

theorem simulateInstruction_frame {I : Record} {s t : State} (h : simulateInstruction I s = .next t) :
    Frame I.size s t := by
  obtain ⟨op, -, h⟩ := simulateInstruction_cases h
  exact ExecOp.run_frame h

/-! ## A run -/

@[simp] theorem RunResult.final_returned (s : State) (f : Option Refusal) : (RunResult.returned s f).final = some s := rfl
@[simp] theorem RunResult.final_violation (f : Fault) : (RunResult.violation f).final = none := rfl
@[simp] theorem RunResult.succeeded_none (s : State) : (RunResult.returned s none).succeeded = true := rfl
@[simp] theorem RunResult.succeeded_some (s : State) (r : Refusal) :
    (RunResult.returned s (some r)).succeeded = false := rfl
@[simp] theorem RunResult.succeeded_violation (f : Fault) : (RunResult.violation f).succeeded = false := rfl

/-- A run without a recorded failure returned a state and nothing else (70_reset_and_hazards.md R556). -/
theorem noFailureRecorded_iff {r : RunResult} : NoFailureRecorded r ↔ ∃ t, r = .returned t none := by
  rcases r with ⟨s, _ | f⟩ | f <;> simp [NoFailureRecorded]

@[simp] theorem simulate_nil (s : State) : simulate [] s = .returned s none := rfl

theorem simulate_cons_next {I : Record} {s t : State} (h : simulateInstruction I s = .next t) (rest : List Record) :
    simulate (I :: rest) s = simulate rest t := by simp [simulate, h]

theorem simulate_cons_refused {I : Record} {s : State} {r : Refusal} (h : simulateInstruction I s = .refused r)
    (rest : List Record) : simulate (I :: rest) s = .returned s (some r) := by simp [simulate, h]

theorem simulate_cons_fault {I : Record} {s : State} {f : Fault} (h : simulateInstruction I s = .fault f)
    (rest : List Record) : simulate (I :: rest) s = .violation f := by simp [simulate, h]

/-- A run over two lists is the run over the first, then over the second from where it ended, unless the first failed. -/
theorem simulate_append (first second : List Record) (s : State) :
    simulate (first ++ second) s =
      match simulate first s with
      | .returned t none => simulate second t
      | .returned t (some r) => .returned t (some r)
      | .violation f => .violation f := by
  induction first generalizing s with
  | nil => rfl
  | cons I rest ih =>
    rw [List.cons_append]
    cases h : simulateInstruction I s with
    | next t => rw [simulate_cons_next h, simulate_cons_next h, ih]
    | fault f => rw [simulate_cons_fault h, simulate_cons_fault h]
    | refused r => rw [simulate_cons_refused h, simulate_cons_refused h]

/-! ## The flags that are never computed -/

@[simp] theorem setZSP_CF (w : Bool) (r : Word) (F : Flags) : (setZSP w r F).CF = F.CF := rfl
@[simp] theorem setZSP_AF (w : Bool) (r : Word) (F : Flags) : (setZSP w r F).AF = F.AF := rfl
@[simp] theorem setZSP_OF (w : Bool) (r : Word) (F : Flags) : (setZSP w r F).OF = F.OF := rfl
@[simp] theorem setZSP_ZF (w : Bool) (r : Word) (F : Flags) : (setZSP w r F).ZF = zeroFlag r := rfl
@[simp] theorem setZSP_SF (w : Bool) (r : Word) (F : Flags) : (setZSP w r F).SF = signFlag w r := rfl
@[simp] theorem setZSP_PF (w : Bool) (r : Word) (F : Flags) : (setZSP w r F).PF = parityFlag r := rfl
@[simp] theorem clearAll_eq (F : Flags) : clearAll F = Flags.none := rfl

end Sys2Proof.Machine
end

