-- ==== Sys2Proof/Laws/Memory.lean ====
section
/-! SUPPORT. The laws of the data memory: a read after a write, and that every operation keeps the canonical form
(10_state.md R34; 20_memory.md R56; log 10). -/

namespace Sys2Proof.Machine

/-- Every listed address is above `a`. -/
def Memory.above (a : Nat) (m : Memory) : Prop := ∀ c ∈ m, a < c.1

theorem Memory.byteAt_of_above {a : Nat} {m : Memory} (h : m.above a) : m.byteAt a = Memory.blank := by
  induction m with
  | nil => rfl
  | cons c m ih =>
    have hc : a < c.1 := h c (by simp)
    rw [Memory.byteAt, if_neg (by omega)]
    exact ih fun x hx => h x (by simp [hx])

theorem Memory.above_mono {a b : Nat} {m : Memory} (hab : a ≤ b) (h : m.above b) : m.above a :=
  fun c hc => Nat.lt_of_le_of_lt hab (h c hc)

/-- The cells after the first lie above it. -/
theorem Memory.above_tail {size : Nat} {c : Host.Cell} {m : Memory} (h : Memory.wf size (c :: m)) : m.above c.1 :=
  (List.pairwise_cons.mp h.1).1

theorem Memory.wf_tail {size : Nat} {c : Host.Cell} {m : Memory} (h : Memory.wf size (c :: m)) : m.wf size :=
  ⟨(List.pairwise_cons.mp h.1).2, fun x hx => h.2 x (by simp [hx])⟩

theorem Memory.wf_cons {size : Nat} {c : Host.Cell} {m : Memory} (hm : m.wf size) (ha : m.above c.1)
    (hb : c.2 ≠ Memory.blank) (hs : c.1 < size) : Memory.wf size (c :: m) := by
  refine ⟨List.pairwise_cons.mpr ⟨ha, hm.1⟩, ?_⟩
  intro x hx
  rcases List.mem_cons.mp hx with rfl | hx
  · exact ⟨hb, hs⟩
  · exact hm.2 x hx

/-- `Memory.cons` reads as its byte at its address, and as the rest elsewhere. -/
theorem Memory.byteAt_cons {a b : Nat} {v : Byte} {m : Memory} (h : m.above a) :
    Memory.byteAt (Memory.cons a v m) b = if b = a then v else m.byteAt b := by
  unfold Memory.cons
  by_cases hv : v = Memory.blank
  · rw [if_pos hv]
    by_cases hb : b = a
    · rw [if_pos hb, hb, Memory.byteAt_of_above h, hv]
    · rw [if_neg hb]
  · rw [if_neg hv, Memory.byteAt]

theorem Memory.wf_consByte {size a : Nat} {v : Byte} {m : Memory} (hm : m.wf size) (h : m.above a) (hs : a < size) :
    Memory.wf size (Memory.cons a v m) := by
  unfold Memory.cons
  split
  · exact hm
  · exact Memory.wf_cons hm h ‹_› hs

/-- A byte written at `a` leaves every bound below `a` and below the listed cells. -/
theorem Memory.above_setByte {a b : Nat} {v : Byte} {m : Memory} (h : m.above b) (hb : b < a) :
    (m.setByte a v).above b := by
  have key : ∀ {m' : Memory}, m'.above b → (Memory.cons a v m').above b := by
    intro m' h'
    unfold Memory.cons
    split
    · exact h'
    · intro c hc
      rcases List.mem_cons.mp hc with rfl | hc
      · exact hb
      · exact h' c hc
  induction m with
  | nil => exact key h
  | cons c m ih =>
    have hm : Memory.above b m := fun x hx => h x (by simp [hx])
    unfold Memory.setByte
    split
    · exact key h
    · split
      · exact key hm
      · intro x hx
        rcases List.mem_cons.mp hx with rfl | hx
        · exact h c (by simp)
        · exact ih hm x hx

/-- The canonical form is kept by a write inside the memory. -/
theorem Memory.wf_setByte {size a : Nat} {v : Byte} {m : Memory} (hm : m.wf size) (hs : a < size) :
    (m.setByte a v).wf size := by
  induction m with
  | nil => exact Memory.wf_consByte hm (by simp [Memory.above]) hs
  | cons c m ih =>
    have ht := Memory.wf_tail hm
    have ha := Memory.above_tail hm
    unfold Memory.setByte
    split
    · rename_i hlt
      refine Memory.wf_consByte hm ?_ hs
      intro x hx
      rcases List.mem_cons.mp hx with rfl | hx
      · exact hlt
      · exact Nat.lt_trans hlt (ha x hx)
    · split
      · rename_i heq
        subst heq
        exact Memory.wf_consByte ht ha hs
      · exact Memory.wf_cons (ih ht) (Memory.above_setByte ha (by omega)) (hm.2 c (by simp)).1 (hm.2 c (by simp)).2

/-- A read after a write of one byte: the byte at its address, the old byte elsewhere. -/
theorem Memory.byteAt_setByte {size a b : Nat} {v : Byte} {m : Memory} (hm : m.wf size) :
    (m.setByte a v).byteAt b = if b = a then v else m.byteAt b := by
  induction m with
  | nil => exact Memory.byteAt_cons (by simp [Memory.above])
  | cons c m ih =>
    obtain ⟨k, u⟩ := c
    have ht := Memory.wf_tail hm
    have ha : Memory.above k m := Memory.above_tail hm
    by_cases h1 : a < k
    · rw [Memory.setByte, if_pos h1]
      refine Memory.byteAt_cons ?_
      intro x hx
      rcases List.mem_cons.mp hx with rfl | hx
      · exact h1
      · exact Nat.lt_trans h1 (ha x hx)
    · by_cases h2 : a = k
      · subst h2
        rw [Memory.setByte, if_neg h1, if_pos rfl, Memory.byteAt_cons ha]
        by_cases hb : b = a
        · simp [hb]
        · simp [hb, Memory.byteAt]
      · rw [Memory.setByte, if_neg h1, if_neg h2, Memory.byteAt, ih ht]
        by_cases hb : b = k
        · simp [hb, Memory.byteAt, Ne.symm h2]
        · simp [hb, Memory.byteAt]

/-- The canonical form is kept by `MemWrite`. -/
theorem memWrite_wf {size a : Nat} {wide : Bool} {v : Word} {m m' : Memory} (hm : m.wf size)
    (h : memWrite size m a wide v = some m') : m'.wf size := by
  unfold memWrite at h
  split at h <;> split at h <;> simp only [Option.some.injEq, reduceCtorEq] at h <;> subst h
  · exact Memory.wf_setByte (Memory.wf_setByte hm (by omega)) (by omega)
  · exact Memory.wf_setByte hm (by omega)

/-- A byte that a `MemWrite` does not cover keeps its value. -/
theorem memWrite_other {size a b : Nat} {wide : Bool} {v : Word} {m m' : Memory} (hm : m.wf size)
    (h : memWrite size m a wide v = some m') (hb : b ≠ a) (hb' : wide = true → b ≠ a + 1) :
    m'.byteAt b = m.byteAt b := by
  unfold memWrite at h
  split at h <;> split at h <;> simp only [Option.some.injEq, reduceCtorEq] at h <;> subst h
  · rename_i hw hs
    rw [Memory.byteAt_setByte (size := size) (Memory.wf_setByte hm (by omega)), if_neg (hb' hw),
      Memory.byteAt_setByte hm, if_neg hb]
  · rw [Memory.byteAt_setByte hm, if_neg hb]

/-- `MemRead` after `MemWrite` at the same address and width gives the value (10_state.md R34; 20_memory.md R56). -/
theorem memRead_memWrite {size a : Nat} {wide : Bool} {v : Word} {m m' : Memory} (hm : m.wf size)
    (h : memWrite size m a wide v = some m') : memRead size m' a wide = some (truncTo wide v) := by
  unfold memWrite at h
  split at h <;> split at h <;> simp only [Option.some.injEq, reduceCtorEq] at h <;> subst h
  · rename_i hw hs
    have hwf := Memory.wf_setByte (v := v.setWidth 8) hm (show a < size by omega)
    rw [memRead, if_pos hw, if_pos hs, Memory.byteAt_setByte hwf, if_neg (by omega), Memory.byteAt_setByte hm,
      if_pos rfl, Memory.byteAt_setByte hwf, if_pos rfl, le16_halves, truncTo, if_pos hw]
  · rename_i hw hs
    rw [memRead, if_neg hw, if_pos hs, Memory.byteAt_setByte hm, if_pos rfl, truncTo, if_neg hw]

/-- The memory of the new context has the canonical form, and every cell of it reads 0
(70_reset_and_hazards.md R550). -/
theorem reset_memory_wf (size : Nat) : Memory.wf size Context.reset.mem := by simp [Context.reset, Memory.wf]

theorem reset_memory_zero (a : Nat) : Context.reset.mem.byteAt a = 0 := rfl

end Sys2Proof.Machine
end

