-- ==== Sys2Proof/Laws/PerInstr.lean ====
section
/-! SUPPORT. Statements made per instruction: one lemma per constructor of Instr. -/

namespace Sys2Proof.Laws.EncodedLength

/-- The encoding of the instruction has as many bytes as the instruction's size, which is 1 to 6 (30_encoding.md R70,
R94; of a refused form, the bytes that the classifier inspects). -/
def Statement (i : Instr) : Prop := (encode i).length = i.size ∧ 1 ≤ i.size ∧ i.size ≤ 6

/-- Of an instruction of one byte. -/
theorem of_one (b : Byte) : [b].length = 1 ∧ 1 ≤ 1 ∧ 1 ≤ 6 := by simp

/-- Of an instruction of two bytes. -/
theorem of_two (b c : Byte) : [b, c].length = 2 ∧ 1 ≤ 2 ∧ 2 ≤ 6 := by simp

/-- Of an instruction that ends with its register/memory operand. -/
theorem of_rm (b : Byte) (g : BitVec 3) (rm : RMOperand) :
    (b :: encRM g rm).length = 2 + rm.dispBytes ∧ 1 ≤ 2 + rm.dispBytes ∧ 2 + rm.dispBytes ≤ 6 := by
  have h := rm.dispBytes_le
  simp only [List.length_cons, encRM_length]
  omega

/-- Of an instruction with a register/memory operand and an immediate. -/
theorem of_rm_imm (b : Byte) (g : BitVec 3) (rm : RMOperand) (wide : Bool) (imm : Word) :
    (b :: (encRM g rm ++ encImm wide imm)).length = 2 + rm.dispBytes + immBytes wide ∧
      1 ≤ 2 + rm.dispBytes + immBytes wide ∧ 2 + rm.dispBytes + immBytes wide ≤ 6 := by
  have h := rm.dispBytes_le
  have hi : immBytes wide ≤ 2 := by cases wide <;> decide
  simp only [List.length_cons, List.length_append, encRM_length, encImm_length]
  omega

/-- Of an instruction with an immediate after its first byte. -/
theorem of_imm (b : Byte) (wide : Bool) (imm : Word) :
    (b :: encImm wide imm).length = 1 + immBytes wide ∧ 1 ≤ 1 + immBytes wide ∧ 1 + immBytes wide ≤ 6 := by
  cases wide <;> simp [encImm, immBytes]

theorem movRmReg (d w : Bool) (reg : RegName) (rm : RMOperand) : Statement (.movRmReg d w reg rm) := of_rm _ _ _
theorem movImmRm (w : Bool) (rm : RMOperand) (imm : Word) : Statement (.movImmRm w rm imm) := of_rm_imm _ _ _ _ _
theorem movImmReg (w : Bool) (reg : RegName) (imm : Word) : Statement (.movImmReg w reg imm) := of_imm _ _ _
theorem movMemAcc (w : Bool) (addr : Word) : Statement (.movMemAcc w addr) := of_imm _ _ _
theorem movAccMem (w : Bool) (addr : Word) : Statement (.movAccMem w addr) := of_imm _ _ _
theorem movRmSr (sr : SegReg) (rm : RMOperand) : Statement (.movRmSr sr rm) := of_rm _ _ _
theorem movSrRm (sr : SegReg) (rm : RMOperand) : Statement (.movSrRm sr rm) := of_rm _ _ _
theorem pushRm (rm : RMOperand) : Statement (.pushRm rm) := of_rm _ _ _
theorem pushReg (reg : RegName) : Statement (.pushReg reg) := of_one _
theorem pushSr (sr : SegReg) : Statement (.pushSr sr) := of_one _
theorem popRm (rm : RMOperand) : Statement (.popRm rm) := of_rm _ _ _
theorem popReg (reg : RegName) : Statement (.popReg reg) := of_one _
theorem popSr (sr : SegReg) : Statement (.popSr sr) := of_one _
theorem xchgRmReg (w : Bool) (reg : RegName) (rm : RMOperand) : Statement (.xchgRmReg w reg rm) := of_rm _ _ _
theorem xchgRegAcc (reg : RegName) : Statement (.xchgRegAcc reg) := of_one _
theorem inFixed (w : Bool) (port : Byte) : Statement (.inFixed w port) := of_two _ _
theorem inVar (w : Bool) : Statement (.inVar w) := of_one _
theorem outFixed (w : Bool) (port : Byte) : Statement (.outFixed w port) := of_two _ _
theorem outVar (w : Bool) : Statement (.outVar w) := of_one _
theorem xlat : Statement .xlat := of_one _
theorem lea (reg : RegName) (rm : RMOperand) : Statement (.lea reg rm) := of_rm _ _ _
theorem lds (reg : RegName) (rm : RMOperand) : Statement (.lds reg rm) := of_rm _ _ _
theorem les (reg : RegName) (rm : RMOperand) : Statement (.les reg rm) := of_rm _ _ _
theorem lahf : Statement .lahf := of_one _
theorem sahf : Statement .sahf := of_one _
theorem pushf : Statement .pushf := of_one _
theorem popf : Statement .popf := of_one _
theorem addRmReg (d w : Bool) (reg : RegName) (rm : RMOperand) : Statement (.addRmReg d w reg rm) := of_rm _ _ _
theorem addImmRm (s w : Bool) (rm : RMOperand) (imm : Word) : Statement (.addImmRm s w rm imm) := of_rm_imm _ _ _ _ _
theorem addImmAcc (w : Bool) (imm : Word) : Statement (.addImmAcc w imm) := of_imm _ _ _
theorem adcRmReg (d w : Bool) (reg : RegName) (rm : RMOperand) : Statement (.adcRmReg d w reg rm) := of_rm _ _ _
theorem adcImmRm (s w : Bool) (rm : RMOperand) (imm : Word) : Statement (.adcImmRm s w rm imm) := of_rm_imm _ _ _ _ _
theorem adcImmAcc (w : Bool) (imm : Word) : Statement (.adcImmAcc w imm) := of_imm _ _ _
theorem incRm (w : Bool) (rm : RMOperand) : Statement (.incRm w rm) := of_rm _ _ _
theorem incReg (reg : RegName) : Statement (.incReg reg) := of_one _
theorem aaa : Statement .aaa := of_one _
theorem daa : Statement .daa := of_one _
theorem subRmReg (d w : Bool) (reg : RegName) (rm : RMOperand) : Statement (.subRmReg d w reg rm) := of_rm _ _ _
theorem subImmRm (s w : Bool) (rm : RMOperand) (imm : Word) : Statement (.subImmRm s w rm imm) := of_rm_imm _ _ _ _ _
theorem subImmAcc (w : Bool) (imm : Word) : Statement (.subImmAcc w imm) := of_imm _ _ _
theorem sbbRmReg (d w : Bool) (reg : RegName) (rm : RMOperand) : Statement (.sbbRmReg d w reg rm) := of_rm _ _ _
theorem sbbImmRm (s w : Bool) (rm : RMOperand) (imm : Word) : Statement (.sbbImmRm s w rm imm) := of_rm_imm _ _ _ _ _
theorem sbbImmAcc (w : Bool) (imm : Word) : Statement (.sbbImmAcc w imm) := of_imm _ _ _
theorem decRm (w : Bool) (rm : RMOperand) : Statement (.decRm w rm) := of_rm _ _ _
theorem decReg (reg : RegName) : Statement (.decReg reg) := of_one _
theorem neg (w : Bool) (rm : RMOperand) : Statement (.neg w rm) := of_rm _ _ _
theorem cmpRmReg (d w : Bool) (reg : RegName) (rm : RMOperand) : Statement (.cmpRmReg d w reg rm) := of_rm _ _ _
theorem cmpImmRm (s w : Bool) (rm : RMOperand) (imm : Word) : Statement (.cmpImmRm s w rm imm) := of_rm_imm _ _ _ _ _
theorem cmpImmAcc (w : Bool) (imm : Word) : Statement (.cmpImmAcc w imm) := of_imm _ _ _
theorem aas : Statement .aas := of_one _
theorem das : Statement .das := of_one _
theorem mul (w : Bool) (rm : RMOperand) : Statement (.mul w rm) := of_rm _ _ _
theorem imul (w : Bool) (rm : RMOperand) : Statement (.imul w rm) := of_rm _ _ _
theorem aam : Statement .aam := of_two _ _
theorem div (w : Bool) (rm : RMOperand) : Statement (.div w rm) := of_rm _ _ _
theorem idiv (w : Bool) (rm : RMOperand) : Statement (.idiv w rm) := of_rm _ _ _
theorem aad : Statement .aad := of_two _ _
theorem cbw : Statement .cbw := of_one _
theorem cwd : Statement .cwd := of_one _
theorem not (w : Bool) (rm : RMOperand) : Statement (.not w rm) := of_rm _ _ _
theorem shl (v w : Bool) (rm : RMOperand) : Statement (.shl v w rm) := of_rm _ _ _
theorem shr (v w : Bool) (rm : RMOperand) : Statement (.shr v w rm) := of_rm _ _ _
theorem sar (v w : Bool) (rm : RMOperand) : Statement (.sar v w rm) := of_rm _ _ _
theorem rol (v w : Bool) (rm : RMOperand) : Statement (.rol v w rm) := of_rm _ _ _
theorem ror (v w : Bool) (rm : RMOperand) : Statement (.ror v w rm) := of_rm _ _ _
theorem rcl (v w : Bool) (rm : RMOperand) : Statement (.rcl v w rm) := of_rm _ _ _
theorem rcr (v w : Bool) (rm : RMOperand) : Statement (.rcr v w rm) := of_rm _ _ _
theorem andRmReg (d w : Bool) (reg : RegName) (rm : RMOperand) : Statement (.andRmReg d w reg rm) := of_rm _ _ _
theorem andImmRm (s w : Bool) (rm : RMOperand) (imm : Word) : Statement (.andImmRm s w rm imm) := of_rm_imm _ _ _ _ _
theorem andImmAcc (w : Bool) (imm : Word) : Statement (.andImmAcc w imm) := of_imm _ _ _
theorem testRmReg (w : Bool) (reg : RegName) (rm : RMOperand) : Statement (.testRmReg w reg rm) := of_rm _ _ _
theorem testImmRm (w : Bool) (rm : RMOperand) (imm : Word) : Statement (.testImmRm w rm imm) := of_rm_imm _ _ _ _ _
theorem testImmAcc (w : Bool) (imm : Word) : Statement (.testImmAcc w imm) := of_imm _ _ _
theorem orRmReg (d w : Bool) (reg : RegName) (rm : RMOperand) : Statement (.orRmReg d w reg rm) := of_rm _ _ _
theorem orImmRm (s w : Bool) (rm : RMOperand) (imm : Word) : Statement (.orImmRm s w rm imm) := of_rm_imm _ _ _ _ _
theorem orImmAcc (w : Bool) (imm : Word) : Statement (.orImmAcc w imm) := of_imm _ _ _
theorem xorRmReg (d w : Bool) (reg : RegName) (rm : RMOperand) : Statement (.xorRmReg d w reg rm) := of_rm _ _ _
theorem xorImmRm (s w : Bool) (rm : RMOperand) (imm : Word) : Statement (.xorImmRm s w rm imm) := of_rm_imm _ _ _ _ _
theorem xorImmAcc (w : Bool) (imm : Word) : Statement (.xorImmAcc w imm) := of_imm _ _ _
theorem rep : Statement .rep := of_one _
theorem repne : Statement .repne := of_one _
theorem movs (w : Bool) : Statement (.movs w) := of_one _
theorem cmps (w : Bool) : Statement (.cmps w) := of_one _
theorem scas (w : Bool) : Statement (.scas w) := of_one _
theorem lods (w : Bool) : Statement (.lods w) := of_one _
theorem stos (w : Bool) : Statement (.stos w) := of_one _
theorem callInd (rm : RMOperand) : Statement (.callInd rm) := of_rm _ _ _
theorem callFarInd (rm : RMOperand) : Statement (.callFarInd rm) := of_rm _ _ _
theorem jmpInd (rm : RMOperand) : Statement (.jmpInd rm) := of_rm _ _ _
theorem jmpFarInd (rm : RMOperand) : Statement (.jmpFarInd rm) := of_rm _ _ _
theorem ret : Statement .ret := of_one _
theorem retImm (imm : Word) : Statement (.retImm imm) := of_imm _ _ _
theorem retf : Statement .retf := of_one _
theorem retfImm (imm : Word) : Statement (.retfImm imm) := of_imm _ _ _
theorem je (disp : Byte) : Statement (.je disp) := of_two _ _
theorem jl (disp : Byte) : Statement (.jl disp) := of_two _ _
theorem jle (disp : Byte) : Statement (.jle disp) := of_two _ _
theorem jb (disp : Byte) : Statement (.jb disp) := of_two _ _
theorem jbe (disp : Byte) : Statement (.jbe disp) := of_two _ _
theorem jp (disp : Byte) : Statement (.jp disp) := of_two _ _
theorem jo (disp : Byte) : Statement (.jo disp) := of_two _ _
theorem js (disp : Byte) : Statement (.js disp) := of_two _ _
theorem jne (disp : Byte) : Statement (.jne disp) := of_two _ _
theorem jnl (disp : Byte) : Statement (.jnl disp) := of_two _ _
theorem jnle (disp : Byte) : Statement (.jnle disp) := of_two _ _
theorem jnb (disp : Byte) : Statement (.jnb disp) := of_two _ _
theorem jnbe (disp : Byte) : Statement (.jnbe disp) := of_two _ _
theorem jnp (disp : Byte) : Statement (.jnp disp) := of_two _ _
theorem jno (disp : Byte) : Statement (.jno disp) := of_two _ _
theorem jns (disp : Byte) : Statement (.jns disp) := of_two _ _
theorem loop (disp : Byte) : Statement (.loop disp) := of_two _ _
theorem loopz (disp : Byte) : Statement (.loopz disp) := of_two _ _
theorem loopnz (disp : Byte) : Statement (.loopnz disp) := of_two _ _
theorem jcxz (disp : Byte) : Statement (.jcxz disp) := of_two _ _
theorem int (imm : Byte) : Statement (.int imm) := of_two _ _
theorem int3 : Statement .int3 := of_one _
theorem into : Statement .into := of_one _
theorem iret : Statement .iret := of_one _
theorem clc : Statement .clc := of_one _
theorem cmc : Statement .cmc := of_one _
theorem stc : Statement .stc := of_one _
theorem cld : Statement .cld := of_one _
theorem std : Statement .std := of_one _
theorem cli : Statement .cli := of_one _
theorem sti : Statement .sti := of_one _
theorem hlt : Statement .hlt := of_one _
theorem wait : Statement .wait := of_one _
theorem lock : Statement .lock := of_one _
theorem callNear : Statement .callNear := of_one _
theorem callFar : Statement .callFar := of_one _
theorem jmpNear : Statement .jmpNear := of_one _
theorem jmpShort : Statement .jmpShort := of_one _
theorem jmpFar : Statement .jmpFar := of_one _
theorem esc (x : BitVec 3) : Statement (.esc x) := of_one _
theorem segment (sr : SegReg) : Statement (.segment sr) := of_one _
theorem aamBase (imm : Byte) : Statement (.aamBase imm) := of_two _ _
theorem aadBase (imm : Byte) : Statement (.aadBase imm) := of_two _ _

end Sys2Proof.Laws.EncodedLength
end

