-- ==== Sys2Proof/Laws/Records.lean ====
section
/-! SUPPORT. What the readers of an instruction's bytes give on an encoding: each field of the term (40_decoder.md R130;
30_encoding.md R78 to R83). -/

namespace Sys2Proof.Machine

/-! ## Bytes and values -/

@[simp] theorem byteOf_zero (b : Byte) (bs : List Byte) : byteOf (b :: bs) 0 = b := rfl

@[simp] theorem byteOf_succ (b : Byte) (bs : List Byte) (q : Nat) : byteOf (b :: bs) (q + 1) = byteOf bs q := rfl

@[simp] theorem valueOf_succ (b : Byte) (bs : List Byte) (q : Nat) (wide : Bool) :
    valueOf (b :: bs) (q + 1) wide = valueOf bs q wide := rfl

theorem valueOf_append (front bs : List Byte) (q : Nat) (wide : Bool) :
    valueOf (front ++ bs) (front.length + q) wide = valueOf bs q wide := by
  induction front with
  | nil => simp
  | cons b rest ih =>
    rw [List.cons_append, List.length_cons, Nat.add_right_comm]
    exact ih

/-- An encoded immediate reads back. -/
theorem valueOf_encImm (wide : Bool) (v : Word) (h : wfImm wide v = true) : valueOf (encImm wide v) 0 wide = v := by
  cases wide
  · simp only [wfImm, fitsByte, Bool.false_or, beq_iff_eq] at h
    exact h.symm
  · exact le16_halves v

/-! ## The rm operand -/

theorem mod_modRegRm (m : BitVec 2) (g e : BitVec 3) : (modRegRm m g e).extractLsb' 6 2 = m := b2Mod_modRegRm m g e

theorem reg_modRegRm (m : BitVec 2) (g e : BitVec 3) : (modRegRm m g e).extractLsb' 3 3 = g := b2Reg_modRegRm m g e

theorem rm_modRegRm (m : BitVec 2) (g e : BitVec 3) : (modRegRm m g e).extractLsb' 0 3 = e := b2Rm_modRegRm m g e

/-- The bytes read as the operand's own number of displacement bytes. -/
theorem dispBytesOf_encRM (b1 : Byte) (g : BitVec 3) (rm : RMOperand) (rest : List Byte) :
    dispBytesOf (b1 :: (encRM g rm ++ rest)) = rm.dispBytes := by
  cases rm with
  | reg r => simp [dispBytesOf, encRM, mod_modRegRm, RMOperand.dispBytes]
  | mem ea =>
    simp only [dispBytesOf, tagOf, encRM, List.cons_append, byteOf_succ, byteOf_zero, mod_modRegRm, rm_modRegRm,
      eaTag_mod_rm, if_neg (EATag.mod_ne_three ea.tag), RMOperand.dispBytes]

/-- The bytes read as the location of the operand that was encoded (40_decoder.md R130). -/
theorem rmOf_encRM (b1 : Byte) (g : BitVec 3) (rm : RMOperand) (rest : List Byte) (w suppress : Bool)
    (h : wfRM w rm = true) : rmOf (b1 :: (encRM g rm ++ rest)) w suppress = rmLocation w suppress rm := by
  have hn := dispBytesOf_encRM b1 g rm rest
  cases rm with
  | reg r => simp [rmOf, encRM, mod_modRegRm, rm_modRegRm, rmLocation, regName_regCode w r h]
  | mem ea =>
    have hd : dispOf (b1 :: (encRM g (.mem ea) ++ rest)) = ea.disp := by
      unfold dispOf
      rw [hn]
      simp only [RMOperand.dispBytes, wfRM, encRM] at h ⊢
      generalize ea.tag.dispBytes = n, ea.disp = v at h ⊢
      match n, h with
      | 0, h => exact (beq_iff_eq.mp h).symm
      | 1, h => exact (beq_iff_eq.mp h).symm
      | n + 2, _ => exact le16_halves v
    rw [rmOf, hd]
    simp only [tagOf, encRM, List.cons_append, byteOf_succ, byteOf_zero, mod_modRegRm, rm_modRegRm, eaTag_mod_rm,
      if_neg (EATag.mod_ne_three ea.tag), rmLocation]

theorem regOf_encRM (b1 : Byte) (r : RegName) (rm : RMOperand) (rest : List Byte) (w : Bool) (h : wfReg w r = true) :
    regOf (b1 :: (encRM (regCode r) rm ++ rest)) w = .Register r := by
  cases rm <;> simp [regOf, encRM, reg_modRegRm, regName_regCode w r h]

theorem sregOf_encRM (b1 : Byte) (sr : SegReg) (rm : RMOperand) (rest : List Byte) :
    sregOf (b1 :: (encRM (sr.code.setWidth 3) rm ++ rest)) = .Register sr.name := by
  have h := fun m e => b2Sr_modRegRm m sr.code e
  unfold b2Sr at h
  cases rm <;> simp [sregOf, encRM, h]

/-- The immediate after an rm operand reads back (40_decoder.md R143). -/
theorem valueOf_after_rm (b1 : Byte) (g : BitVec 3) (rm : RMOperand) (wide : Bool) (v : Word)
    (h : wfImm wide v = true) : valueOf (b1 :: (encRM g rm ++ encImm wide v)) (2 + rm.dispBytes) wide = v := by
  have e : 2 + rm.dispBytes = (encRM g rm).length + 0 + 1 := by rw [encRM_length]; omega
  rw [e, valueOf_succ]
  exact (valueOf_append _ _ 0 wide).trans (valueOf_encImm wide v h)

/-- An rm operand read from bytes is a register of its width, or memory of its width with a displacement of its tag's
size (40_decoder.md R124, R130). -/
theorem rmOf_isRM (bs : List Byte) (w suppress : Bool) : (rmOf bs w suppress).IsRM w suppress := by
  unfold rmOf
  split
  · exact .inl ⟨_, wfReg_regName _ _, rfl⟩
  · rename_i hm
    refine .inr ⟨_, ?_, rfl⟩
    have hb : dispBytesOf bs = (tagOf bs).dispBytes := if_neg hm
    have hv : ∀ b : Byte, fitsByte (b.signExtend 16) = true := by decide
    have hle := EATag.dispBytes_le (tagOf bs)
    unfold dispOf
    rw [hb]
    simp only
    generalize (tagOf bs).dispBytes = n at hle
    match n, hle with
    | 0, _ => rfl
    | 1, _ => exact hv _
    | 2, _ => rfl

end Sys2Proof.Machine
end

