-- ==== Sys2Proof/Laws/Step.lean ====
section
/-! SUPPORT. What one step of the machine can do, and what the meaning of an instruction leaves alone. -/

namespace Sys2Proof.Machine

/-! ## Meanings -/

/-- What a completed instruction leaves alone, and where ip goes (42_execution_unit.md R198; 10_state.md R33). -/
theorem exec_frame {i : Instr} {s t : State} (h : exec i s = .next t) : Frame i.size s t := by
  cases i
  case movRmReg d w reg rm =>
    obtain ⟨r, src, -, -, rfl⟩ := simMove_cases h; exact ⟨rfl, fun _ => rfl, rfl, rfl, rfl, rfl, rfl⟩
  case movImmReg w reg imm =>
    unfold exec execMovImmReg at h
    obtain ⟨r, src, -, -, rfl⟩ := simMove_cases h; exact ⟨rfl, fun _ => rfl, rfl, rfl, rfl, rfl, rfl⟩
  case movRmSr sr rm =>
    obtain ⟨r, src, -, -, rfl⟩ := simMove_cases h; exact ⟨rfl, fun _ => rfl, rfl, rfl, rfl, rfl, rfl⟩
  case movSrRm sr rm =>
    obtain ⟨r, src, -, -, rfl⟩ := simMove_cases h; exact ⟨rfl, fun _ => rfl, rfl, rfl, rfl, rfl, rfl⟩
  case addRmReg d w reg rm =>
    obtain ⟨r, src, -, -, rfl⟩ := simAlu_cases h; exact ⟨rfl, fun _ => rfl, rfl, rfl, rfl, rfl, rfl⟩
  case addImmRm e w rm imm =>
    obtain ⟨r, src, -, -, rfl⟩ := simAlu_cases h; exact ⟨rfl, fun _ => rfl, rfl, rfl, rfl, rfl, rfl⟩
  case subRmReg d w reg rm =>
    obtain ⟨r, src, -, -, rfl⟩ := simAlu_cases h; exact ⟨rfl, fun _ => rfl, rfl, rfl, rfl, rfl, rfl⟩
  case subImmRm e w rm imm =>
    obtain ⟨r, src, -, -, rfl⟩ := simAlu_cases h; exact ⟨rfl, fun _ => rfl, rfl, rfl, rfl, rfl, rfl⟩
  case cmpRmReg d w reg rm => obtain rfl := simCmp_cases h; exact ⟨rfl, fun _ => rfl, rfl, rfl, rfl, rfl, rfl⟩
  case cmpImmRm e w rm imm => obtain rfl := simCmp_cases h; exact ⟨rfl, fun _ => rfl, rfl, rfl, rfl, rfl, rfl⟩
  all_goals cases h

/-! ## Steps -/

/-- All that a completed step can do: it runs the waiting record, or with none waiting it stays (the pass is done), ends
the pass (no byte is left), or decodes, executes and emits one instruction. -/
theorem step_cases {s t : State} (h : step s = .next t) :
    (∃ I u, s.dec.seq[s.pos]? = some I ∧ simulateInstruction I s = .next u ∧ t = { u with pos := u.pos + 1 }) ∨
    (s.dec.seq[s.pos]? = none ∧ s.dec.status = .Done ∧ t = s) ∨
    (s.dec.seq[s.pos]? = none ∧ s.dec.status = .Running ∧ decode (s.stream.drop s.dec.cursor) = .error .endOfStream ∧
      t = { s with dec := { s.dec with status := .Done } }) ∨
    (∃ i rest u, s.dec.seq[s.pos]? = none ∧ s.dec.status = .Running ∧
      decode (s.stream.drop s.dec.cursor) = .ok (i, rest) ∧ exec i s = .next u ∧ t = u.emitted i s.dec.cursor) := by
  unfold step at h
  split at h
  · rename_i I hI
    obtain ⟨u, hu, h⟩ := Out.andThen_eq_next.mp h
    cases h
    exact .inl ⟨I, u, hI, hu, rfl⟩
  · rename_i hn
    split at h
    · rename_i hs
      cases h
      exact .inr (.inl ⟨hn, hs, rfl⟩)
    · cases h
    · rename_i hs
      unfold stepDecode at h
      split at h
      · rename_i hd
        cases h
        exact .inr (.inr (.inl ⟨hn, hs, hd, rfl⟩))
      · cases h
      · rename_i i rest hd
        obtain ⟨u, hu, h⟩ := Out.andThen_eq_next.mp h
        cases h
        exact .inr (.inr (.inr ⟨i, rest, u, hn, hs, hd, hu, rfl⟩))

/-- The bytes run out exactly at the end of the stream. -/
theorem decode_eq_endOfStream {bs : List Byte} : decode bs = .error .endOfStream ↔ bs = [] := by
  constructor
  · intro h
    cases bs with
    | nil => rfl
    | cons b r =>
      unfold decode decodeRow at h
      simp only at h
      split at h
      · rename_i e hd
        split at hd
        · cases hd; cases h
        · split at hd <;> cases hd; cases h
      · split at h <;> cases h
  · rintro rfl; rfl

end Sys2Proof.Machine
end

