-- ==== Sys2Proof/Tests/Slice0.lean ====
section
/-! SUPPORT. The model's own tests. The expected results come from the spec: the encodings of 30_encoding.md R91, the worked
examples and vectors of 95_test_vectors.md, and the examples of the rules named beside a test. Each statement of
Obligations.lean that has hypotheses has a witness theorem test_witness_<its name> (several for several clauses). -/

namespace Sys2Proof.Tests

open Machine

/-! ## Helpers -/

/-- The bytes decode to the instruction and leave nothing. -/
def reads (bs : List Byte) (i : Instr) : Bool :=
  match decode bs with
  | .ok (j, []) => decide (j = i)
  | _ => false

/-- The bytes do not decode, for this reason and with these bytes reported. -/
def rejects (bs : List Byte) (reason : DecodeReason) (b1 : Byte) (b2 : Option Byte) : Bool :=
  match decode bs with
  | .error e => decide (e = .failure reason b1 b2)
  | .ok _ => false

/-- The renderer's text of the one instruction that the bytes hold. -/
def text (bs : List Byte) : Option String := ((decodePass bs).seq.map recordText).head?

/-- The reset state with these bytes in the stream and these registers set by the host. -/
def start (bs : List Byte) (regs : List (RegName × Int)) : State :=
  regs.foldl (fun s x => setRegister x.1 x.2 s) { State.reset with stream := bs }

/-- The state after so many steps, where they all complete. -/
def after (k : Nat) (s : State) : Option State :=
  match k with
  | 0 => some s
  | k + 1 => match step s with
    | .next t => after k t
    | _ => none

/-- The reason for which a step is refused, if it is. -/
def refusal (s : State) : Option Refusal :=
  match step s with
  | .refused r => some r
  | _ => none

/-- The failure that a run returned. -/
def stopOf : RunResult → Option Refusal
  | .returned _ f => f
  | .violation _ => none

/-- What a test looks at in a state: some registers, the flags ZF, SF and PF, whether one of CF, AF and OF is set, and ip. -/
def look (rs : List RegName) (s : State) : List Word × (Bool × Bool × Bool) × Bool × Word :=
  (rs.map fun r => getRegister r s, (s.ctx.F.ZF, s.ctx.F.SF, s.ctx.F.PF), s.ctx.F.CF || s.ctx.F.AF || s.ctx.F.OF, s.ctx.ip)


/-! ## Decoding: a word of every constructor (30_encoding.md R91; 95_test_vectors.md Part 2) -/

theorem test_decode_data_transfer :
    [([0x88, 0x00], Instr.movRmReg false false .AL (.mem ⟨.BX_SI, 0⟩)),
      ([0x8A, 0xC4], Instr.movRmReg true false .AL (.reg .AH)),
      ([0x8B, 0x46, 0xFC], Instr.movRmReg true true .AX (.mem ⟨.BP_D8, 0xFFFC⟩)),
      ([0x8B, 0x86, 0x34, 0x12], Instr.movRmReg true true .AX (.mem ⟨.BP_D16, 0x1234⟩)),
      ([0xC6, 0x06, 0x00, 0x10, 0xFF], Instr.movImmRm false (.mem ⟨.DIRECT, 0x1000⟩) 0xFFFF),
      ([0xC7, 0xC0, 0xFF, 0xFF], Instr.movImmRm true (.reg .AX) 0xFFFF),
      ([0xB4, 0xFF], Instr.movImmReg false .AH 0xFFFF),
      ([0xB8, 0x05, 0x00], Instr.movImmReg true .AX 5),
      ([0xA1, 0x34, 0x12], Instr.movMemAcc true 0x1234),
      ([0xA2, 0xFF, 0xFF], Instr.movAccMem false 0xFFFF),
      ([0x8E, 0xD8], Instr.movRmSr .DS (.reg .AX)),
      ([0x8C, 0xC8], Instr.movSrRm .CS (.reg .AX)),
      ([0xFF, 0x36, 0x00, 0x10], Instr.pushRm (.mem ⟨.DIRECT, 0x1000⟩)),
      ([0x50], Instr.pushReg .AX),
      ([0x06], Instr.pushSr .ES),
      ([0x8F, 0xC0], Instr.popRm (.reg .AX)),
      ([0x5F], Instr.popReg .DI),
      ([0x0F], Instr.popSr .CS),
      ([0x86, 0xD8], Instr.xchgRmReg false .BL (.reg .AL)),
      ([0x93], Instr.xchgRegAcc .BX)].all (fun x => reads x.1 x.2) = true := by decide

theorem test_decode_data_transfer2 :
    [([0xE4, 0x80], Instr.inFixed false 0x80),
      ([0xED], Instr.inVar true),
      ([0xE6, 0xFF], Instr.outFixed false 0xFF),
      ([0xEE], Instr.outVar false),
      ([0xD7], Instr.xlat),
      ([0x8D, 0x47, 0x08], Instr.lea .AX (.mem ⟨.BX_D8, 8⟩)),
      ([0xC5, 0x1E, 0x00, 0x10], Instr.lds .BX (.mem ⟨.DIRECT, 0x1000⟩)),
      ([0xC4, 0x1E, 0x00, 0x10], Instr.les .BX (.mem ⟨.DIRECT, 0x1000⟩)),
      ([0x9F], Instr.lahf),
      ([0x9E], Instr.sahf),
      ([0x9C], Instr.pushf),
      ([0x9D], Instr.popf)].all (fun x => reads x.1 x.2) = true := by decide

theorem test_decode_arithmetic :
    [([0x01, 0xD8], Instr.addRmReg false true .BX (.reg .AX)),
      ([0x83, 0xC3, 0xFC], Instr.addImmRm true true (.reg .BX) 0xFFFC),
      ([0x82, 0xC3, 0x01], Instr.addImmRm true false (.reg .BL) 1),
      ([0x05, 0x34, 0x12], Instr.addImmAcc true 0x1234),
      ([0x11, 0xD8], Instr.adcRmReg false true .BX (.reg .AX)),
      ([0x83, 0xD3, 0x01], Instr.adcImmRm true true (.reg .BX) 1),
      ([0x15, 0x01, 0x00], Instr.adcImmAcc true 1),
      ([0xFE, 0x07], Instr.incRm false (.mem ⟨.BX, 0⟩)),
      ([0x40], Instr.incReg .AX),
      ([0x37], Instr.aaa),
      ([0x27], Instr.daa),
      ([0x29, 0xCB], Instr.subRmReg false true .CX (.reg .BX)),
      ([0x83, 0xEB, 0x01], Instr.subImmRm true true (.reg .BX) 1),
      ([0x2D, 0x01, 0x00], Instr.subImmAcc true 1),
      ([0x19, 0xD8], Instr.sbbRmReg false true .BX (.reg .AX)),
      ([0x81, 0xDB, 0x01, 0x00], Instr.sbbImmRm false true (.reg .BX) 1),
      ([0x1C, 0x01], Instr.sbbImmAcc false 1),
      ([0xFF, 0x0F], Instr.decRm true (.mem ⟨.BX, 0⟩)),
      ([0x49], Instr.decReg .CX)].all (fun x => reads x.1 x.2) = true := by decide

theorem test_decode_arithmetic2 :
    [([0xF7, 0xD8], Instr.neg true (.reg .AX)),
      ([0x39, 0xD8], Instr.cmpRmReg false true .BX (.reg .AX)),
      ([0x83, 0xF8, 0x05], Instr.cmpImmRm true true (.reg .AX) 5),
      ([0x3C, 0x80], Instr.cmpImmAcc false 0xFF80),
      ([0x3F], Instr.aas),
      ([0x2F], Instr.das),
      ([0xF6, 0xE3], Instr.mul false (.reg .BL)),
      ([0xF7, 0xEB], Instr.imul true (.reg .BX)),
      ([0xD4, 0x0A], Instr.aam),
      ([0xF7, 0xF1], Instr.div true (.reg .CX)),
      ([0xF6, 0xFB], Instr.idiv false (.reg .BL)),
      ([0xD5, 0x0A], Instr.aad),
      ([0x98], Instr.cbw),
      ([0x99], Instr.cwd)].all (fun x => reads x.1 x.2) = true := by decide

theorem test_decode_logic :
    [([0xF7, 0xD0], Instr.not true (.reg .AX)),
      ([0xD1, 0xE0], Instr.shl false true (.reg .AX)),
      ([0xD3, 0xE8], Instr.shr true true (.reg .AX)),
      ([0xD0, 0xF8], Instr.sar false false (.reg .AL)),
      ([0xD1, 0xC0], Instr.rol false true (.reg .AX)),
      ([0xD2, 0xCB], Instr.ror true false (.reg .BL)),
      ([0xD0, 0xD0], Instr.rcl false false (.reg .AL)),
      ([0xD1, 0xD8], Instr.rcr false true (.reg .AX)),
      ([0x20, 0xD8], Instr.andRmReg false false .BL (.reg .AL)),
      ([0x80, 0xE0, 0x0F], Instr.andImmRm false false (.reg .AL) 15),
      ([0x25, 0x0F, 0x00], Instr.andImmAcc true 15),
      ([0x84, 0xC3], Instr.testRmReg false .AL (.reg .BL)),
      ([0xF6, 0xC3, 0x01], Instr.testImmRm false (.reg .BL) 1),
      ([0xA8, 0x01], Instr.testImmAcc false 1),
      ([0x08, 0xD8], Instr.orRmReg false false .BL (.reg .AL)),
      ([0x80, 0xC8, 0x01], Instr.orImmRm false false (.reg .AL) 1),
      ([0x0D, 0x01, 0x00], Instr.orImmAcc true 1),
      ([0x30, 0xC0], Instr.xorRmReg false false .AL (.reg .AL)),
      ([0x83, 0xF0, 0xFF], Instr.xorImmRm true true (.reg .AX) 0xFFFF),
      ([0x34, 0xFF], Instr.xorImmAcc false 0xFFFF)].all (fun x => reads x.1 x.2) = true := by decide

theorem test_decode_string :
    [([0xF3], Instr.rep),
      ([0xF2], Instr.repne),
      ([0xA4], Instr.movs false),
      ([0xA5], Instr.movs true),
      ([0xA7], Instr.cmps true),
      ([0xAE], Instr.scas false),
      ([0xAC], Instr.lods false),
      ([0xAB], Instr.stos true)].all (fun x => reads x.1 x.2) = true := by decide

theorem test_decode_control :
    [([0xFF, 0xD3], Instr.callInd (.reg .BX)),
      ([0xFF, 0x1F], Instr.callFarInd (.mem ⟨.BX, 0⟩)),
      ([0xFF, 0xE0], Instr.jmpInd (.reg .AX)),
      ([0xFF, 0x2E, 0x00, 0x10], Instr.jmpFarInd (.mem ⟨.DIRECT, 0x1000⟩)),
      ([0xC3], Instr.ret),
      ([0xC2, 0x04, 0x00], Instr.retImm 4),
      ([0xCB], Instr.retf),
      ([0xCA, 0x02, 0x00], Instr.retfImm 2),
      ([0xCD, 0x21], Instr.int 0x21),
      ([0xCC], Instr.int3),
      ([0xCE], Instr.into),
      ([0xCF], Instr.iret)].all (fun x => reads x.1 x.2) = true := by decide

theorem test_decode_jumps :
    [([0x74, 0x05], Instr.je 5),
      ([0x7C, 0x00], Instr.jl 0),
      ([0x7E, 0xFE], Instr.jle 0xFE),
      ([0x72, 0x80], Instr.jb 0x80),
      ([0x76, 0x00], Instr.jbe 0),
      ([0x7A, 0x01], Instr.jp 1),
      ([0x70, 0x02], Instr.jo 2),
      ([0x78, 0x03], Instr.js 3),
      ([0x75, 0x04], Instr.jne 4),
      ([0x7D, 0x05], Instr.jnl 5),
      ([0x7F, 0x06], Instr.jnle 6),
      ([0x73, 0x07], Instr.jnb 7),
      ([0x77, 0x08], Instr.jnbe 8),
      ([0x7B, 0x09], Instr.jnp 9),
      ([0x71, 0x0A], Instr.jno 0x0A),
      ([0x79, 0x0B], Instr.jns 0x0B),
      ([0xE2, 0xFE], Instr.loop 0xFE),
      ([0xE1, 0xFE], Instr.loopz 0xFE),
      ([0xE0, 0xFE], Instr.loopnz 0xFE),
      ([0xE3, 0x7F], Instr.jcxz 0x7F)].all (fun x => reads x.1 x.2) = true := by decide

theorem test_decode_processor_control :
    [([0xF8], Instr.clc),
      ([0xF5], Instr.cmc),
      ([0xF9], Instr.stc),
      ([0xFC], Instr.cld),
      ([0xFD], Instr.std),
      ([0xFA], Instr.cli),
      ([0xFB], Instr.sti),
      ([0xF4], Instr.hlt),
      ([0x9B], Instr.wait),
      ([0xF0], Instr.lock)].all (fun x => reads x.1 x.2) = true := by decide

/-- The refused forms, and the term that stands for each in the table (30_encoding.md R84). -/
theorem test_decode_refused_forms :
    [([0xE8, 0, 0], Instr.callNear, (0xE8 : Byte), (none : Option Byte)), ([0x9A, 0, 0, 0, 0], .callFar, 0x9A, none),
      ([0xE9, 0, 0], .jmpNear, 0xE9, none), ([0xEB, 0], .jmpShort, 0xEB, none), ([0xEA, 0, 0, 0, 0], .jmpFar, 0xEA, none),
      ([0xD8, 0], .esc 0, 0xD8, none), ([0xDF, 0], .esc 7, 0xDF, none), ([0x26], .segment .ES, 0x26, none),
      ([0x2E], .segment .CS, 0x2E, none), ([0x36], .segment .SS, 0x36, none), ([0x3E], .segment .DS, 0x3E, none),
      ([0xD4, 0x08], .aamBase 8, 0xD4, some 8), ([0xD5, 0x0B], .aadBase 0x0B, 0xD5, some 0x0B)].all (fun x =>
        rejects x.1 .NotDispatched x.2.2.1 x.2.2.2 &&
        (match decodeRow x.1 with
          | .ok (i, _) => decide (i = x.2.1)
          | .error _ => false)) = true := by decide

/-- Illegal and truncated words (95_test_vectors.md 2.7). -/
theorem test_decode_failures :
    [([0x6A], DecodeReason.Illegal, (0x6A : Byte), (none : Option Byte)), ([0xC8], .Illegal, 0xC8, none),
      ([0xF1], .Illegal, 0xF1, none), ([0x8E, 0x28], .Illegal, 0x8E, some 0x28), ([0x8C, 0x20], .Illegal, 0x8C, some 0x20),
      ([0x8F, 0x08], .Illegal, 0x8F, some 0x08), ([0xF6, 0x08], .Illegal, 0xF6, some 0x08),
      ([0xFE, 0x10], .Illegal, 0xFE, some 0x10), ([0xFF, 0xF8], .Illegal, 0xFF, some 0xF8),
      ([0xD0, 0xF0], .Illegal, 0xD0, some 0xF0), ([0x83], .Truncated, 0x83, none), ([0xB8, 0x05], .Truncated, 0xB8, none),
      ([0x81, 0xC3], .Truncated, 0x81, some 0xC3), ([0x81, 0x46, 0xFC], .Truncated, 0x81, some 0x46)].all (fun x =>
        rejects x.1 x.2.1 x.2.2.1 x.2.2.2) = true := by decide

/-- The longest instruction has six bytes, and the encoder gives the words back (30_encoding.md R94). -/
theorem test_encode_longest : encode (.addImmRm false true (.mem ⟨.DIRECT, 0x1000⟩) 0x0403) = [0x81, 0x06, 0x00, 0x10, 0x03, 0x04] ∧
    (Instr.addImmRm false true (.mem ⟨.DIRECT, 0x1000⟩) 0x0403).size = 6 := by decide

/-- The numbering of the opcode table: match 0x8800 is `mov byte [bx + si], al`, match 0xD40A is `aam`. -/
theorem test_table_word : decodeTableWord 16 0x8800 = some (.movRmReg false false .AL (.mem ⟨.BX_SI, 0⟩)) ∧
    decodeTableWord 16 0xD40A = some .aam ∧ decodeTableWord 8 0x90 = some (.xchgRegAcc .AX) ∧
    decodeTableWord 16 0xE800 = none := by decide

/-! ## Well-formedness: an ill-formed term for each check -/

theorem test_illformed_byte_name_in_word_form : (Instr.pushReg .AL).WellFormed = false := by decide
theorem test_illformed_word_name_in_byte_form : (Instr.mul false (.reg .AX)).WellFormed = false := by decide
theorem test_illformed_segment_name : (Instr.pushRm (.reg .DS)).WellFormed = false := by decide
theorem test_illformed_reg_operand : (Instr.addRmReg true true .BL (.reg .AX)).WellFormed = false := by decide
theorem test_illformed_displacement_where_none : (Instr.lea .AX (.mem ⟨.BX_SI, 1⟩)).WellFormed = false := by decide
theorem test_illformed_displacement_too_wide : (Instr.lea .AX (.mem ⟨.BX_SI_D8, 0x80⟩)).WellFormed = false := by decide
theorem test_illformed_byte_immediate : (Instr.movImmReg false .AL 0xFF).WellFormed = false := by decide
theorem test_illformed_sign_extended_immediate : (Instr.addImmRm true true (.reg .BX) 0x80).WellFormed = false := by decide
theorem test_illformed_aam_base : (Instr.aamBase 0x0A).WellFormed = false := by decide
theorem test_illformed_aad_base : (Instr.aadBase 0x0A).WellFormed = false := by decide
theorem test_wellformed_boundaries : (Instr.lea .AX (.mem ⟨.BX_SI_D8, 0xFF80⟩)).WellFormed = true ∧
    (Instr.addImmRm true true (.reg .BX) 0x7F).WellFormed = true ∧
    (Instr.addImmRm false true (.reg .BX) 0x80).WellFormed = true := by decide

/-! ## Rendering (95_test_vectors.md Part 2; 41_renderer.md R180) -/

theorem test_text_a :
    [([0x88, 0x00], "mov byte [bx + si], al"),
      ([0x8B, 0x46, 0xFC], "mov ax, word [bp - 4]"),
      ([0x8B, 0x46, 0x00], "mov ax, word [bp + 0]"),
      ([0xC6, 0x06, 0x00, 0x10, 0xFF], "mov byte [4096], byte -1"),
      ([0xA0, 0x00, 0x80], "mov al, byte [32768]"),
      ([0xA2, 0xFF, 0xFF], "mov byte [65535], al"),
      ([0x8D, 0x47, 0x08], "lea ax, [bx + 8]"),
      ([0x87, 0xC3], "xchg ax, bx"),
      ([0xE4, 0x80], "in al, -128"),
      ([0x83, 0xC3, 0xFC], "add bx, byte -4"),
      ([0x05, 0x34, 0x12], "add ax, word 4660"),
      ([0xFE, 0x07], "inc byte [bx]")].all (fun x => decide (text x.1 = some x.2)) = true := by decide

theorem test_text_b :
    [([0xD1, 0xE0], "shl ax, 1"),
      ([0xD2, 0xCB], "ror bl, cl"),
      ([0x84, 0xC3], "test bl, al"),
      ([0xA4], "movsb"),
      ([0xAF], "scasw"),
      ([0x72, 0x80], "jb label_-126"),
      ([0xFF, 0x1F], "call far [bx]"),
      ([0xFF, 0xD8], "call far ax"),
      ([0xC2, 0x04, 0x00], "ret 4"),
      ([0xCD, 0x80], "int -128"),
      ([0x7F, 0x06], "jg label_8"),
      ([0x77, 0x08], "ja label_10")].all (fun x => decide (text x.1 = some x.2)) = true := by decide

/-- The loop that does not loop (41_renderer.md R180). -/
theorem test_render_loop : render (decodePass [0xB9, 0x03, 0x00, 0x49, 0x75, 0xFD]).seq
      (decodePass [0xB9, 0x03, 0x00, 0x49, 0x75, 0xFD]).labels =
    ["bits 16", "mov cx, word 3", "label_3:", "dec cx", "jne label_3"] := by decide

/-- Two labels passed by one instruction are written one per instruction (95_test_vectors.md 2.8). -/
theorem test_render_lagging_label : render (decodePass [0xB8, 0, 0, 0x74, 0xFC, 0x74, 0xFB]).seq
      (decodePass [0xB8, 0, 0, 0x74, 0xFC, 0x74, 0xFB]).labels =
    ["bits 16", "mov ax, word 0", "label_1:", "je label_1", "label_2:", "je label_2"] := by decide

/-! ## The decode pass -/

/-- The partial result of a failing pass (40_decoder.md R148). -/
theorem test_pass_partial : decodePass [0xB8, 0x05, 0x00, 0x60] =
    { cursor := 3, seq := [⟨.MOV_IMM_REG, 3, false, some (.Register .AX), some (.Immediate 5 true false)⟩], labels := [],
      status := .Failed ⟨.Illegal, 3, 0x60, none⟩ } := by decide

/-- Label ordering (95_test_vectors.md, the four properties). -/
theorem test_pass_labels : (decodePass [0x74, 0x04, 0x74, 0x00, 0x74, 0xFA]).labels = [0, 4, 6] ∧
    (decodePass [0x74, 0x02, 0x74, 0x00]).labels = [4] ∧ (decodePass [0x72, 0x80]).labels = [-126] := by decide

/-! ## Execution, one step (95_test_vectors.md 2.1, 2.2) -/

theorem test_mov_rm_reg_word : (after 1 (start [0x89, 0xC3] [(.AX, 5)])).map (look [.AX, .BX]) =
    some ([5, 5], (false, false, false), false, 2) := by decide

theorem test_mov_rm_reg_high_alias : (after 1 (start [0x88, 0xE3] [(.AX, 0x1234)])).map (look [.AX, .BX]) =
    some ([0x1234, 0x12], (false, false, false), false, 2) := by decide

theorem test_mov_imm_reg_word : (after 1 (start [0xB8, 0x05, 0x00] [])).map (look [.AX]) =
    some ([5], (false, false, false), false, 3) := by decide

theorem test_mov_imm_reg_high_alias : (after 1 (start [0xB4, 0xFF] [(.AX, 0x12)])).map (look [.AX]) =
    some ([0xFF12], (false, false, false), false, 2) := by decide

theorem test_mov_rm_sr : (after 1 (start [0x8E, 0xD8] [(.AX, 0x1234)])).map (look [.DS, .AX]) =
    some ([0x1234, 0x1234], (false, false, false), false, 2) := by decide

theorem test_mov_sr_rm : (after 1 (start [0x8C, 0xC8] [(.CS, 0x42)])).map (look [.AX]) =
    some ([0x42], (false, false, false), false, 2) := by decide

theorem test_add_parity_of_16_bits : (after 1 (start [0x01, 0xD8] [(.AX, 0x00FF), (.BX, 1)])).map (look [.AX]) =
    some ([0x0100], (false, false, false), false, 2) := by decide

theorem test_add_same_register : (after 1 (start [0x01, 0xC0] [(.AX, 0x8000)])).map (look [.AX]) =
    some ([0], (true, false, true), false, 2) := by decide

theorem test_add_imm_sign_extended : (after 1 (start [0x83, 0xC3, 0xFC] [(.BX, 4)])).map (look [.BX]) =
    some ([0], (true, false, true), false, 3) := by decide

theorem test_add_imm_byte : (after 1 (start [0x80, 0xC3, 0xCC] [(.BX, 0x1234)])).map (look [.BX]) =
    some ([0x1200], (true, false, true), false, 3) := by decide

theorem test_sub_scenario_e : (after 1 (start [0x29, 0xC0] [(.AX, 5)])).map (look [.AX]) =
    some ([0], (true, false, true), false, 2) := by decide

theorem test_sub_rm_reg : (after 1 (start [0x29, 0xCB] [(.BX, 0xF003), (.CX, 0x0F01)])).map (look [.BX, .CX]) =
    some ([0xE102, 0x0F01], (false, true, false), false, 2) := by decide

theorem test_sub_imm_word_borrow : (after 1 (start [0x83, 0xEB, 0x01] [])).map (look [.BX]) =
    some ([0xFFFF], (false, true, true), false, 3) := by decide

theorem test_sub_imm_byte_borrow : (after 1 (start [0x80, 0xEB, 0x01] [(.BX, 0x1200)])).map (look [.BX]) =
    some ([0x12FF], (false, true, true), false, 3) := by decide

theorem test_add_byte_truncated : (after 1 (start [0x00, 0xCB] [(.BX, 0x00FF), (.CX, 1)])).map (look [.BX]) =
    some ([0], (true, false, true), false, 2) := by decide

theorem test_add_byte_wide16 : (after 1 (Machine.State.mk (start [0x00, 0xCB] [(.BX, 0x00FF), (.CX, 1)]).ctx Decoder.reset 0 [0x00, 0xCB] ⟨true, 65536, .Wide16⟩)).map (look [.BX]) =
    some ([0], (false, false, false), false, 2) := by decide

theorem test_add_imm_byte_wide16 : (after 1 (Machine.State.mk (start [0x80, 0xC3, 0x7F] [(.BX, 0x80)]).ctx Decoder.reset 0 [0x80, 0xC3, 0x7F] ⟨true, 65536, .Wide16⟩)).map (look [.BX]) =
    some ([0xFF], (false, false, true), false, 3) := by decide

theorem test_sub_byte_wide16 : (after 1 (Machine.State.mk (start [0x28, 0xCB] [(.CX, 1)]).ctx Decoder.reset 0 [0x28, 0xCB] ⟨true, 65536, .Wide16⟩)).map (look [.BX]) =
    some ([0x00FF], (false, true, true), false, 2) := by decide

/-- CMP clears the flags that `sub ax, ax` set, whatever the operands (90_conflicts.md C1). -/
theorem test_cmp_rm_reg_only_clears :
    (after 1 (start [0x29, 0xC0, 0x39, 0xD8] [])).map (look [.AX]) = some ([0], (true, false, true), false, 2) ∧
    (after 2 (start [0x29, 0xC0, 0x39, 0xD8] [])).map (look [.AX]) = some ([0], (false, false, false), false, 4) := by decide

theorem test_cmp_imm_rm_only_clears :
    (after 2 (start [0x29, 0xC0, 0x83, 0xF8, 0x05] [])).map (look [.AX]) = some ([0], (false, false, false), false, 5) := by decide

/-- MOV keeps the flags (95_test_vectors.md 2.1, the last row). -/
theorem test_mov_keeps_flags : (after 3 (start [0x29, 0xC0, 0xB8, 0x05, 0x00, 0x89, 0xC3] [(.AX, 5)])).map (look [.AX, .BX]) =
    some ([5, 5], (true, false, true), false, 7) := by decide

/-- With IP_ADVANCES false ip stays 0 (95_test_vectors.md, Scenario D). -/
theorem test_ip_does_not_advance :
    (after 1 { start [0xB8, 0x05, 0x00] [] with params := ⟨false, 65536, .Truncated⟩ }).map (look [.AX]) =
    some ([5], (false, false, false), false, 0) := by decide

/-- ip wraps with no fault (10_state.md R33). -/
theorem test_ip_wraps : (after 1 ((start [0x89, 0xC3] []).withIp 0xFFFF)).map (look []) =
    some ([], (false, false, false), false, 1) := by decide

/-! ## Failures of a step (95_test_vectors.md 2.1, 2.2, 2.7) -/

theorem test_memory_operand : refusal (start [0x8B, 0x1E, 0x00, 0x00] []) = some (.simulationFailure (.MemoryOperand
    ⟨.MOV_RM_REG, 4, false, some (.Register .BX), some (.Memory ⟨.DIRECT, 0⟩ true false)⟩)) := by decide

/-- NotImplemented is reported before MemoryOperand (60_exceptions.md R514). -/
theorem test_not_implemented_before_memory :
    refusal (start [0xFF, 0x36, 0x00, 0x10] []) = some (.simulationFailure (.NotImplemented "push" 7)) := by decide

theorem test_not_implemented :
    [([0x49], "dec", 44), ([0x05, 0x34, 0x12], "add", 29), ([0x3C, 0x80], "cmp", 48), ([0xA1, 0x34, 0x12], "mov", 3),
      ([0x93], "xchg", 14), ([0x74, 0x05], "je", 94), ([0xF4], "hlt", 125), ([0xF3], "rep", 79), ([0xA4], "movs", 81),
      ([0xFF, 0x1F], "call far", 87), ([0xD3, 0xE8], "shr", 61)].all (fun x =>
        decide (refusal (start x.1 []) = some (.simulationFailure (.NotImplemented x.2.1 x.2.2)))) = true := by decide

theorem test_decode_failure_of_a_step :
    refusal (start [0xEB, 0x00] []) = some (.decodeFailure ⟨.NotDispatched, 0, 0xEB, none⟩) ∧
    refusal (start [0xF6, 0x08] []) = some (.decodeFailure ⟨.Illegal, 0, 0xF6, some 0x08⟩) := by decide

/-! ## Programs, the machine's steps and the host's calls (95_test_vectors.md 2.9, Part 3) -/

/-- P4, register aliasing. -/
theorem test_program_p4 : (after 3 (start [0xB8, 0x34, 0x12, 0x88, 0xE3, 0x80, 0xC3, 0xCC] [])).map (look [.AX, .BX]) =
    some ([0x1234, 0x00DE], (false, true, true), false, 8) := by decide

/-- P5, segment moves, a compare, and a refused jump at the end. -/
theorem test_program_p5 :
    ((after 6 (start [0xB8, 5, 0, 0x8E, 0xD8, 0x8C, 0xDB, 0x01, 0xD8, 0x29, 0xC3, 0x39, 0xC3, 0xEB, 0] [])).map
      (look [.AX, .BX, .DS])) = some ([0x000A, 0xFFFB, 5], (false, false, false), false, 13) ∧
    ((after 6 (start [0xB8, 5, 0, 0x8E, 0xD8, 0x8C, 0xDB, 0x01, 0xD8, 0x29, 0xC3, 0x39, 0xC3, 0xEB, 0] [])).bind refusal) =
      some (.decodeFailure ⟨.NotDispatched, 13, 0xEB, none⟩) := by decide

/-- P6 with the list decoded ahead: the second record stops the run, and the first one's effects stay. -/
theorem test_program_p6 :
    let s := (start [0xB8, 5, 0, 0x8B, 0x1E, 0, 0, 0x89, 0xC3] []).decodeAll
    (simulate s.dec.seq s).final.map (look [.AX, .BX]) = some ([5, 0], (false, false, false), false, 3) ∧
    (stopOf (simulate s.dec.seq s)).isSome = true := by decide

theorem test_host_registers : getRegister .AX (setRegister .AL 0x1FF State.reset) = 0x00FF ∧
    getRegister .AX (setRegister .AH 0x12 (setRegister .AX 0x34 State.reset)) = 0x1234 ∧
    getRegister .BH (setRegister .BX 0xABCD State.reset) = 0xAB ∧
    getRegister .DS (setRegister .DS 0x10000 State.reset) = 0 ∧
    getRegister .AX (setRegister .AX (-1) State.reset) = 0xFFFF := by decide

/-- The register positions (10_state.md R22). -/
theorem test_register_positions : [RegName.AX, .AL, .AH, .CX, .CL, .CH, .DX, .DL, .DH, .BX, .BL, .BH, .SP, .BP, .SI, .DI, .ES,
    .CS, .SS, .DS].map regPos = [0, 0, 1, 2, 2, 3, 4, 4, 5, 6, 6, 7, 8, 10, 12, 14, 16, 18, 20, 22] := by decide

theorem test_cause_codes : [DecodeReason.Illegal.code, DecodeReason.NotDispatched.code, DecodeReason.Truncated.code,
    Fault.WriteImmediate.code, Fault.WriteLabel.code, Fault.ReadLabel.code, Fault.UnknownRegister.code,
    Fault.MissingOperand.code] = [1, 2, 3, 32, 33, 34, 35, 36] := by decide

/-- Reset runs no program: with an empty stream the first step ends the pass, and the next one stays (log 5, log 4). -/
theorem test_reset_steps : after 1 State.reset = some { State.reset with dec := ⟨0, [], [], .Done⟩ } ∧
    after 2 State.reset = after 1 State.reset := by decide

/-- A placed word runs as the first instruction after reset: `sub ax, ax` (log 5, log 7). -/
theorem test_fetch_word : (after 1 (State.reset.withFetchWord 16 0x29C0)).map (look [.AX]) =
    some ([0], (true, false, true), false, 2) := by decide

/-- The memory primitives (20_memory.md R56; log 10). -/
theorem test_memory : memWrite 65536 [] 0xFFFE true 0x1200 = some [(0xFFFF, 0x12)] ∧ memWrite 65536 [] 0xFFFF true 1 = none ∧
    memRead 65536 [(5, 0x34), (6, 0x12)] 5 true = some 0x1234 ∧ memWrite 65536 [(5, 0x34)] 5 false 0 = some [] := by decide

/-! ## Witnesses: the hypotheses of each statement can be met -/

theorem test_witness_DecodeOfEncode :
    [Instr.addImmRm false true (.mem ⟨.BP_DI_D16, 0x8000⟩) 0xFFFF, .movRmReg true false .BH (.reg .AH),
      .lea .DI (.mem ⟨.BX_SI_D8, 0xFF80⟩), .lea .SP (.mem ⟨.DIRECT, 0xFFFF⟩), .addImmRm true true (.reg .DI) 0x7F,
      .outFixed true 0xFF, .jcxz 0x80].all (fun i => i.WellFormed && !i.isRefused) = true := by decide

theorem test_witness_EncodeOfDecode : decode [0x83, 0xC3, 0xFC, 0x90] = .ok (.addImmRm true true (.reg .BX) 0xFFFC, [0x90]) := rfl

/-- The pass at its start over a stream, as the statements about one turn take it. -/
theorem test_witness_RefusedEncodingsAreNotDispatched : Decoder.reset.status = .Running ∧
    ([0xE8, 0x00] : List Byte).drop Decoder.reset.cursor = 0xE8 :: [0x00] ∧
    ([0xD8] : List Byte).drop Decoder.reset.cursor = 0xD8 :: [] ∧
    ([0xDF] : List Byte).drop Decoder.reset.cursor = 0xDF :: [] ∧
    ([0xD4, 0x09] : List Byte).drop Decoder.reset.cursor = 0xD4 :: 0x09 :: [] ∧ (0x09 : Byte) ≠ 0x0A ∧
    ([0xD5, 0x0B] : List Byte).drop Decoder.reset.cursor = 0xD5 :: 0x0B :: [] ∧ (0x0B : Byte) ≠ 0x0A := by decide

theorem test_witness_IllegalEncodingsAreIllegal : Decoder.reset.status = .Running ∧
    ([0x60] : List Byte).drop Decoder.reset.cursor = 0x60 :: [] ∧ ([0x6F] : List Byte).drop Decoder.reset.cursor = 0x6F :: [] ∧
    ([0xF1] : List Byte).drop Decoder.reset.cursor = 0xF1 :: [] ∧
    (0x20 : Byte).getLsbD 5 = true ∧ (0x08 : Byte).extractLsb' 3 3 ≠ 0 ∧ (0xF0 : Byte).extractLsb' 3 3 = 6 ∧
    (0x08 : Byte).extractLsb' 3 3 = 1 ∧ 2 ≤ (0x10 : Byte).extractLsb' 3 3 ∧ 2 ≤ (0x38 : Byte).extractLsb' 3 3 ∧
    (0x38 : Byte).extractLsb' 3 3 = 7 := by decide

theorem test_witness_TruncatedEncodingsAreTruncated : Decoder.reset.status = .Running ∧
    ([0xFF] : List Byte).drop Decoder.reset.cursor = [0xFF] ∧
    (Instr.addImmRm false true (.mem ⟨.BP_D8, 0xFFFC⟩) 1).WellFormed = true ∧
    (Instr.addImmRm false true (.mem ⟨.BP_D8, 0xFFFC⟩) 1).isRefused = false ∧
    4 < (Instr.addImmRm false true (.mem ⟨.BP_D8, 0xFFFC⟩) 1).size ∧
    ([0x81, 0x46, 0xFC, 0x01] : List Byte).drop Decoder.reset.cursor =
      (encode (.addImmRm false true (.mem ⟨.BP_D8, 0xFFFC⟩) 1)).take 4 ∧
    (0x81 : Byte) ∈ inspectsB2 ∧ (0xB8 : Byte) ∉ inspectsB2 ∧ (Instr.movImmReg true .AX 5).type = some .MOV_IMM_REG ∧
    InstrType.MOV_IMM_REG.format ≠ .MR ∧ [0xB8, 0x05] = (encode (.movImmReg true .AX 5)).take 2 ∧
    (Instr.lea .AX (.mem ⟨.BP_D16, 0⟩)).type = some .LEA ∧ InstrType.LEA.format = .MR ∧
    [0x8D, 0x86, 0x00] = (encode (.lea .AX (.mem ⟨.BP_D16, 0⟩))).take 3 := by decide

/-- A truncated MR form reports b2, which the length rule read (60_exceptions.md R511). -/
theorem test_truncated_mr_reports_b2 : rejects [0x8B, 0x46] .Truncated 0x8B (some 0x46) = true ∧
    rejects [0x8B] .Truncated 0x8B none = true ∧ rejects [0x8D, 0x86, 0x00] .Truncated 0x8D (some 0x86) = true := by decide

/-- The spec's examples of operands in bytes (40_decoder.md R143, R137, R134, R141). -/
theorem test_operands_from_bytes : operandsFrom .MOV_IMM_RM 0 [0xC7, 0x86, 0x34, 0x12, 0x78, 0x56] =
      (some (.Memory ⟨.BP_D16, 4660⟩ true false), some (.Immediate 22136 true false)) ∧
    operandsFrom .IN_FIXED 0 [0xE4, 0x60] = (some (.Register .AL), some (.Immediate 96 false true)) ∧
    operandsFrom .JNE 4 [0x75, 0xFD] = (some (.JumpLabel 3), none) ∧
    operandsFrom .MOV_RM_REG 0 [0x8B, 0x46, 0xFC] =
      (some (.Register .AX), some (.Memory ⟨.BP_D8, 0xFFFC⟩ true false)) := by decide

/-- The effective width: the w bit, its place in RI, the forced types, and none of a format without it (R129). -/
theorem test_effective_width : effectiveWidth .AAD 0xD5 = false ∧ effectiveWidth .STC 0xF9 = false ∧
    effectiveWidth .MOVS 0xA5 = true ∧ effectiveWidth .MOV_IMM_REG 0xB8 = true ∧ effectiveWidth .MOV_IMM_REG 0xB1 = false ∧
    effectiveWidth .LES 0xC4 = true ∧ effectiveWidth .MOV_SR_RM 0x8C = true ∧ effectiveWidth .PUSH_REG 0x50 = true ∧
    effectiveWidth .ADD_RM_REG 0x00 = false := by decide

/-- A missing operand is reported before what the other operand violates (log 14). -/
theorem test_missing_operand_first : simulate [⟨.MOV_RM_REG, 2, false, some (.Immediate 1 true false), none⟩] State.reset =
      .violation .MissingOperand ∧
    simulate [⟨.CMP_RM_REG, 2, false, none, some (.JumpLabel 0)⟩] State.reset = .violation .MissingOperand := by decide

theorem test_witness_TypesAreTags0To127 : (0 : Nat) < 128 ∧ 127 < 128 ∧ Instr.lock.isRefused = false ∧
    (Instr.esc 7).isRefused = true := by decide

/-- A record of every format. -/
theorem test_witness_RecordShapeFollowsFormat :
    [Instr.movs true, .aam, .xchgRegAcc .BX, .pushReg .AX, .pushSr .CS, .je 5, .int 3, .retImm 4, .movImmReg true .AX 5,
      .addImmAcc false 1, .inVar true, .movMemAcc true 7, .lea .AX (.mem ⟨.BX, 0⟩), .movRmSr .DS (.reg .AX),
      .movImmRm true (.reg .AX) 1, .neg true (.reg .AX), .shl true true (.reg .AX)].all
        (fun i => i.WellFormed && (i.record 0).isSome) = true := by decide

/-- Records of the formats whose operands the statement gives in full (40_decoder.md R137, R138, R146, R154). -/
theorem test_record_operands : (Instr.outFixed true 0x80).record 0 =
      some ⟨.OUT_FIXED, 2, false, some (.Immediate 0xFF80 false true), some (.Register .AX)⟩ ∧
    (Instr.movAccMem false 0xFFFF).record 0 =
      some ⟨.MOV_ACC_MEM, 3, false, some (.Memory ⟨.DIRECT, 0xFFFF⟩ false false), some (.Register .AL)⟩ ∧
    (Instr.les .AX (.mem ⟨.BX, 0⟩)).record 0 =
      some ⟨.LES, 2, false, some (.Register .AX), some (.Memory ⟨.BX, 0⟩ true true)⟩ ∧
    (Instr.movSrRm .DS (.mem ⟨.BX, 0⟩)).record 0 =
      some ⟨.MOV_SR_RM, 2, false, some (.Memory ⟨.BX, 0⟩ true false), some (.Register .DS)⟩ := by decide

theorem test_witness_JumpRecordsHoldTheirTarget :
    (Instr.jb 0x80).record 4 = some ⟨.JB, 2, false, some (.JumpLabel (-122)), none⟩ ∧ InstrType.JB.format = .J8 := by decide

theorem test_witness_DirectionBitNamesDestination : Instr.xorRmReg ∈
    [Instr.movRmReg, .addRmReg, .adcRmReg, .subRmReg, .sbbRmReg, .cmpRmReg, .andRmReg, .orRmReg, .xorRmReg] := by simp

theorem test_witness_RegisterBytesReadAndWrite : RegName.AH.isByte = true ∧ (0 : Fin 24) ≠ regPos .AH ∧
    RegName.DS.isByte = false ∧ (21 : Fin 24) ≠ regPos .DS ∧ (21 : Fin 24) ≠ regPos .DS + 1 := by decide

theorem test_witness_AliasesReadTheirHalves : (RegName.BX, RegName.BL, RegName.BH) ∈
    [(RegName.AX, RegName.AL, RegName.AH), (.CX, .CL, .CH), (.DX, .DL, .DH), (.BX, .BL, .BH)] := by decide

/-- The names that share no byte: the other half, another register. -/
theorem test_witness_HostRegisterAccess : sharesByte .AL .AH = false ∧ sharesByte .AX .CS = false ∧
    sharesByte .AX .AL = true := by decide

theorem test_witness_MemoryPrimitivesReadWrite : Memory.wf 8 [(3, 0x12)] ∧
    memWrite 8 [(3, 0x12)] 6 true 0x3400 = some [(3, 0x12), (7, 0x34)] ∧ memWrite 8 [(3, 0x12)] 7 false 1 ≠ none ∧
    memWrite 8 [(3, 0x12)] 7 true 1 = none := by decide

theorem test_witness_AddAndSubtractWrap : (0xFF : Word).toNat < 2 ^ (if false then 16 else 8) ∧
    (0xFFFF : Word).toNat < 2 ^ (if true then 16 else 8) := by decide

/-- A record of CMP that completes. -/
theorem test_witness_FlagFunctionsOfAResult :
    ∃ t, simCmp ⟨.CMP_RM_REG, 2, false, some (.Register .AX), some (.Register .BX)⟩ State.reset = .next t := ⟨_, rfl⟩

theorem test_witness_ByteBasesDifferInFlagsOnly : RegName.AX.isByte = false := rfl

theorem test_witness_MovRegisterForms : wfReg true .AX = true ∧ wfReg false .BH = true := by decide
theorem test_witness_MovImmediateToRegister : wfReg true .SP = true ∧ wfReg false .AH = true := by decide
theorem test_witness_MovSegmentRegisterForms : wfReg true .DI = true := by decide
theorem test_witness_AddRegisterForms : wfReg true .AX = true ∧ wfReg false .BH = true := by decide
theorem test_witness_SubRegisterForms : wfReg true .DI = true ∧ wfReg false .AL = true := by decide
theorem test_witness_AddImmediateForms : wfReg true .AX = true ∧ wfReg false .CL = true := by decide
theorem test_witness_SubImmediateForms : wfReg true .SI = true ∧ wfReg false .DH = true := by decide
theorem test_witness_CompareForms : wfReg true .AX = true ∧ wfReg false .BH = true := by decide

theorem test_witness_MemoryFormsStop : Instr.cmpImmRm true true (.mem ⟨.DIRECT, 0xFFFF⟩) 5 ∈
    [Instr.movRmReg true true .AX (.mem ⟨.DIRECT, 0xFFFF⟩), .movRmSr .DS (.mem ⟨.DIRECT, 0xFFFF⟩),
      .movSrRm .DS (.mem ⟨.DIRECT, 0xFFFF⟩), .addRmReg true true .AX (.mem ⟨.DIRECT, 0xFFFF⟩),
      .addImmRm true true (.mem ⟨.DIRECT, 0xFFFF⟩) 5, .subRmReg true true .AX (.mem ⟨.DIRECT, 0xFFFF⟩),
      .subImmRm true true (.mem ⟨.DIRECT, 0xFFFF⟩) 5, .cmpRmReg true true .AX (.mem ⟨.DIRECT, 0xFFFF⟩),
      .cmpImmRm true true (.mem ⟨.DIRECT, 0xFFFF⟩) 5] := by decide

theorem test_witness_MeaningIsTheRecordsExecution : (Instr.decReg .CX).record State.reset.dec.cursor =
    some ⟨.DEC_REG, 1, false, some (.Register .CX), none⟩ := by decide

theorem test_witness_UnsupportedTypesFail : InstrType.ADD_IMM_ACC ∉ [InstrType.MOV_IMM_REG, .MOV_RM_REG, .MOV_RM_SR,
    .MOV_SR_RM, .ADD_RM_REG, .ADD_IMM_RM, .SUB_RM_REG, .SUB_IMM_RM, .CMP_RM_REG, .CMP_IMM_RM] := by decide

theorem test_witness_MemoryOperandsFailAndMemoryIsUntouched : InstrType.ADD_RM_REG.execOp.isSome = true ∧
    Record.hasMemory ⟨.ADD_RM_REG, 2, false, some (.Register .AX), some (.Memory ⟨.BX, 0⟩ true false)⟩ = true ∧
    (after 1 (start [0xB8, 0x05, 0x00] [])).isSome = true := by decide

theorem test_witness_DecodedInstructionsNeverFault : (Instr.movRmReg true true .AX (.reg .BX)).record 9 =
    some ⟨.MOV_RM_REG, 2, false, some (.Register .AX), some (.Register .BX)⟩ := by decide

theorem test_witness_HandBuiltRecordsViolateTheContract : InstrType.CMP_IMM_RM.execOp.isSome = true ∧
    Record.hasMemory ⟨.CMP_IMM_RM, 2, false, some (.Register .AX), none⟩ = false := by decide

/-- A record of SUB and one of ADD that complete. -/
theorem test_witness_CarryFlagsNeverSet :
    (∃ t, simulateInstruction ⟨.SUB_RM_REG, 2, false, some (.Register .AX), some (.Register .BX)⟩ State.reset = .next t) ∧
    (∃ t, simulateInstruction ⟨.ADD_RM_REG, 2, false, some (.Register .AX), some (.Register .BX)⟩ State.reset = .next t) ∧
    FlagsClean (start [0x29, 0xC0] []).ctx ∧ (after 1 (start [0x29, 0xC0] [])).isSome = true :=
  ⟨⟨_, rfl⟩, ⟨_, rfl⟩, by decide, by decide⟩

/-- A record of MOV, which writes no flag, and one of CMP, which writes no register, that complete. -/
theorem test_witness_OnlyListedTypesWriteFlagsAndRegisters :
    (∃ t, simulateInstruction ⟨.MOV_RM_REG, 2, false, some (.Register .AX), some (.Register .BX)⟩ State.reset = .next t) ∧
    (∃ t, simulateInstruction ⟨.CMP_RM_REG, 2, false, some (.Register .AX), some (.Register .BX)⟩ State.reset = .next t) :=
  ⟨⟨_, rfl⟩, ⟨_, rfl⟩⟩

theorem test_witness_InstructionPointerAdvance :
    (∃ t, simulateInstruction ⟨.MOV_RM_REG, 2, false, some (.Register .AX), some (.Register .BX)⟩ State.reset = .next t) ∧
    State.reset.params.ipAdvances = true ∧
    (after 1 { start [0x89, 0xC3] [] with params := ⟨false, 65536, .Truncated⟩ }).isSome = true ∧
    (∃ r, simulateInstruction ⟨.DEC_REG, 1, false, some (.Register .CX), none⟩ State.reset = .refused r) ∧
    ∃ f, simulateInstruction ⟨.MOV_RM_REG, 2, false, some (.Register .CX), none⟩ State.reset = .fault f :=
  ⟨⟨_, rfl⟩, rfl, by decide, ⟨_, rfl⟩, ⟨_, rfl⟩⟩

/-- A run with no failure, a refused one and one with a contract violation. -/
theorem test_witness_RunStopsAtFirstFailure :
    NoFailureRecorded (simulate (decodePass [0xB8, 5, 0, 0x89, 0xC3]).seq State.reset) ∧
    stopOf (simulate (decodePass [0xB9, 3, 0, 0x49, 0x75, 0xFD]).seq State.reset) =
      some (.simulationFailure (.NotImplemented "dec" 44)) ∧
    simulate [⟨.MOV_RM_REG, 2, false, none, none⟩] State.reset = .violation .MissingOperand ∧
    (simulate [⟨.MOV_RM_REG, 2, false, none, none⟩] State.reset).final = none := by decide

theorem test_witness_FinalInstructionPointer : FreshContext (start [] [(.AX, 5)]).ctx ∧
    (start [] [(.AX, 5)]).params.ipAdvances = true ∧ DecodeOk [0xB8, 5, 0, 0x89, 0xC3] ∧
    NoFailureRecorded (simulate (decodePass [0xB8, 5, 0, 0x89, 0xC3]).seq (start [] [(.AX, 5)])) ∧
    (simulate (decodePass [0xB8, 5, 0, 0x89, 0xC3]).seq (start [] [(.AX, 5)])).final.map (·.ctx.ip) = some 5 ∧
    (simulate (decodePass [0xB9, 3, 0, 0x49]).seq State.reset).final.map (·.ctx.ip) = some 3 := by decide

theorem test_witness_StepRunsTheDecodedInstruction : (start [0x29, 0xC0] []).dec.seq[(start [0x29, 0xC0] []).pos]? = none ∧
    (start [0x29, 0xC0] []).dec.status = .Running ∧
    decode ((start [0x29, 0xC0] []).stream.drop (start [0x29, 0xC0] []).dec.cursor) =
      .ok (.subRmReg false true .AX (.reg .AX), []) := ⟨by decide, by decide, rfl⟩

theorem test_witness_StepRunsTheWaitingRecord :
    (start [0xFD] []).decodeAll.dec.seq[(start [0xFD] []).decodeAll.pos]? = some ⟨.STD, 1, false, none, none⟩ := by decide

/-- The four ends: no byte left, bytes that do not decode, a pass that is done, a pass that failed. -/
theorem test_witness_StepAtTheEndOfThePass :
    State.reset.dec.seq[State.reset.pos]? = none ∧ State.reset.dec.status = .Running ∧
    State.reset.stream.drop State.reset.dec.cursor = [] ∧
    decode ((start [0x60] []).stream.drop (start [0x60] []).dec.cursor) = .error (.failure .Illegal 0x60 none) ∧
    State.reset.decodeAll.dec.status = .Done ∧ State.reset.decodeAll.dec.seq[State.reset.decodeAll.pos]? = none ∧
    (start [0x60] []).decodeAll.dec.status = .Failed ⟨.Illegal, 0, 0x60, none⟩ ∧
    (start [0x60] []).decodeAll.dec.seq[(start [0x60] []).decodeAll.pos]? = none :=
  ⟨by decide, by decide, by decide, rfl, by decide, by decide, by decide, by decide⟩

/-- A state in the middle of a pass that meets the invariant: one jump decoded and waiting. -/
theorem test_witness_StepNeverFaultsUnderTheInvariant : State.Inv { start [0x74, 0x05] [] with
    dec := ⟨2, [⟨.JE, 2, false, some (.JumpLabel 7), none⟩], [7], .Running⟩ } := by
  refine ⟨by decide, by decide, ⟨by decide, fun t => ?_, by decide⟩, ?_, by decide, by decide, by decide⟩
  · simp [jumpTargets, InstrType.format, InstrType.row]
  · intro k I h
    match k, h with
    | 0, h =>
      cases h
      exact ⟨.je 5, [], rfl, rfl⟩
    | k + 1, h => simp at h

/-- A state that meets the invariant and completes a step: `sub ax, ax` waits to be decoded. -/
theorem test_witness_StepKeepsTheInvariant : State.Inv (start [0x29, 0xC0] [(.AX, 5)]) ∧
    ∃ t, step (start [0x29, 0xC0] [(.AX, 5)]) = .next t := by
  refine ⟨⟨by decide, by decide, ⟨by decide, fun t => ?_, by decide⟩, ?_, by decide, by decide, by decide⟩, ?_⟩
  · simp [start, setRegister, State.withRegs, State.reset, Decoder.reset, jumpTargets]
  · intro k I h
    simp [start, setRegister, State.withRegs, State.reset, Decoder.reset] at h
  · have h : (after 1 (start [0x29, 0xC0] [(.AX, 5)])).isSome = true := by decide
    revert h
    unfold after
    cases step (start [0x29, 0xC0] [(.AX, 5)]) <;> simp [after]

/-- The four clauses: a partial run, a whole one with the pass done, one with the pass failed, and a refused one. -/
theorem test_witness_StepsRefineDecodeThenSimulate :
    (start [0xB8, 5, 0, 0x89, 0xC3] []).dec = Decoder.reset ∧ (start [0xB8, 5, 0, 0x89, 0xC3] []).pos = 0 ∧
    (decodePass [0xB8, 5, 0, 0x89, 0xC3]).status = .Done ∧ (decodePass [0xB8, 5, 0, 0x89, 0xC3]).seq.length = 2 ∧
    NoFailureRecorded (simulate (decodePass [0xB8, 5, 0, 0x89, 0xC3]).seq (start [0xB8, 5, 0, 0x89, 0xC3] [])) ∧
    (decodePass [0xB8, 5, 0, 0xEB]).status = .Failed ⟨.NotDispatched, 3, 0xEB, none⟩ ∧
    NoFailureRecorded (simulate (decodePass [0xB8, 5, 0, 0xEB]).seq (start [0xB8, 5, 0, 0xEB] [])) ∧
    stopOf (simulate (decodePass [0xB9, 3, 0, 0x49]).seq (start [0xB9, 3, 0, 0x49] [])) =
      some (.simulationFailure (.NotImplemented "dec" 44)) := by decide

theorem test_witness_StepsOfADecodedList : (start [0xB8, 5, 0, 0x89, 0xC3] []).decodeAll.pos = 0 ∧
    NoFailureRecorded (simulate (start [0xB8, 5, 0, 0x89, 0xC3] []).decodeAll.dec.seq (start [0xB8, 5, 0, 0x89, 0xC3] []).decodeAll) ∧
    stopOf (simulate (start [0x49] []).decodeAll.dec.seq (start [0x49] []).decodeAll) =
      some (.simulationFailure (.NotImplemented "dec" 44)) ∧
    simulate [⟨.MOV_RM_REG, 2, false, none, none⟩] State.reset = .violation .MissingOperand ∧
    (start [0xB8, 5, 0, 0xEB] []).decodeAll.dec.status = .Failed ⟨.NotDispatched, 3, 0xEB, none⟩ ∧
    State.Ended { (start [0xB8, 5, 0, 0xEB] []).decodeAll with pos := 1 } := by decide

/-- Three labels: the second lags by one record, and the one past the end is never written (41_renderer.md R172). -/
theorem test_witness_RenderShape : (decodePass [0x90, 0x90, 0x90]).seq[1]? =
      some ⟨.XCHG_REG_ACC, 1, false, some (.Register .AX), some (.Register .AX)⟩ ∧
    render (decodePass [0x90, 0x90, 0x90]).seq [-2, 0, 9] =
      ["bits 16", "xchg ax, ax", "label_-2:", "xchg ax, ax", "label_0:", "xchg ax, ax"] := by decide

end Sys2Proof.Tests
end

section
/-! PROOFS. Family 10_state.md: the register file, the data memory, the flags and the instruction pointer. -/

namespace Sys2Proof.Machine

/-! ## Bytes of a word, and what a register read is -/

/-- The low byte of a word, in the two spellings of the model. -/
theorem setWidth_eq_lowByte (v : Word) : v.setWidth 8 = v.extractLsb' 0 8 := BitVec.setWidth_eq_extractLsb' (by decide)

/-- Assembly of two bytes, low byte first, as a number (20_memory.md R55). -/
theorem le16_toNat (lo hi : Byte) : (le16 lo hi).toNat = lo.toNat + 256 * hi.toNat := by
  rw [le16, BitVec.toNat_append, ← Nat.shiftLeft_add_eq_or_of_lt lo.isLt, Nat.shiftLeft_eq]
  omega

theorem readReg_byte (regs : RegFile) {r : RegName} (h : r.isByte = true) :
    readReg regs r = (regs.get (regPos r)).setWidth 16 := if_pos h

theorem readReg_word (regs : RegFile) {r : RegName} (h : r.isByte = false) :
    readReg regs r = le16 (regs.get (regPos r)) (regs.get (regPosHi r)) := if_neg (by simp [h])

/-- An 8-bit register reads as its byte (10_state.md R24). -/
theorem readReg_byte_toNat (regs : RegFile) {r : RegName} (h : r.isByte = true) :
    (readReg regs r).toNat = (regs.get (regPos r)).toNat := by
  rw [readReg_byte regs h, BitVec.toNat_setWidth_of_le (by decide)]

/-- A 16-bit register reads as its low byte and 256 times its high byte (10_state.md R24). -/
theorem readReg_word_toNat (regs : RegFile) {r : RegName} (h : r.isByte = false) :
    (readReg regs r).toNat = (regs.get (regPos r)).toNat + 256 * (regs.get (regPosHi r)).toNat := by
  rw [readReg_word regs h, le16_toNat]

/-- Settles O15: the positions that a write covers are the ones that a read assembles. -/
theorem registerBytesReadAndWrite : Obligations.RegisterBytesReadAndWrite := by
  intro regs r v
  have hlow : (writeReg regs r v).get (regPos r) = v.extractLsb' 0 8 := by
    rw [writeReg_get_low, setWidth_eq_lowByte]
  refine ⟨fun h => ⟨readReg_byte_toNat regs h, hlow, fun q hq => ?_⟩,
    fun h => ⟨readReg_word_toNat regs h, hlow, writeReg_get_high regs r v h, fun q hq hq' => ?_⟩⟩
  · exact writeReg_get_other regs r v q hq.symm (by simp [h])
  · exact writeReg_get_other regs r v q hq.symm fun _ => hq'.symm

/-! ## The two halves of a 16-bit register -/

/-- `lo` and `hi` are the 8-bit names of the two bytes of the 16-bit register `x` (10_state.md R26). -/
structure AreHalves (x lo hi : RegName) : Prop where
  word : x.isByte = false
  lowByte : lo.isByte = true
  highByte : hi.isByte = true
  lowPos : regPos lo = regPos x
  highPos : regPos hi = regPosHi x

theorem areHalves_of_mem {x : RegName × RegName × RegName}
    (h : x ∈ [(RegName.AX, RegName.AL, RegName.AH), (.CX, .CL, .CH), (.DX, .DL, .DH), (.BX, .BL, .BH)]) :
    AreHalves x.1 x.2.1 x.2.2 := by
  simp only [List.mem_cons, List.not_mem_nil, or_false] at h
  rcases h with rfl | rfl | rfl | rfl <;> exact ⟨rfl, rfl, rfl, rfl, rfl⟩

section
variable {x lo hi : RegName} (h : AreHalves x lo hi)
include h

theorem AreHalves.pos_ne : regPos lo ≠ regPos hi := by
  rw [h.lowPos, h.highPos]
  exact regPos_ne_regPosHi x

theorem AreHalves.readReg_word_toNat (regs : RegFile) :
    (readReg regs x).toNat = (readReg regs hi).toNat * 256 + (readReg regs lo).toNat := by
  rw [Machine.readReg_word_toNat regs h.word, readReg_byte_toNat regs h.lowByte, readReg_byte_toNat regs h.highByte,
    h.lowPos, h.highPos]
  omega

theorem AreHalves.readReg_low_of_write_word (regs : RegFile) (v : Word) :
    readReg (writeReg regs x v) lo = (v.extractLsb' 0 8).setWidth 16 := by
  rw [readReg_byte _ h.lowByte, h.lowPos, writeReg_get_low, setWidth_eq_lowByte]

theorem AreHalves.readReg_high_of_write_word (regs : RegFile) (v : Word) :
    readReg (writeReg regs x v) hi = (v.extractLsb' 8 8).setWidth 16 := by
  rw [readReg_byte _ h.highByte, h.highPos, writeReg_get_high _ _ _ h.word]

theorem AreHalves.readReg_high_of_write_low (regs : RegFile) (v : Word) :
    readReg (writeReg regs lo v) hi = readReg regs hi := by
  rw [readReg_byte _ h.highByte, readReg_byte _ h.highByte,
    writeReg_get_other regs lo v _ h.pos_ne (by simp [h.lowByte])]

theorem AreHalves.readReg_low_of_write_high (regs : RegFile) (v : Word) :
    readReg (writeReg regs hi v) lo = readReg regs lo := by
  rw [readReg_byte _ h.lowByte, readReg_byte _ h.lowByte,
    writeReg_get_other regs hi v _ h.pos_ne.symm (by simp [h.highByte])]

end

/-- A byte written into an 8-bit register reads back. -/
theorem readReg_writeReg_byte_toNat (regs : RegFile) {r : RegName} (h : r.isByte = true) (u : Byte) :
    (readReg (writeReg regs r (u.setWidth 16)) r).toNat = u.toNat := by
  rw [readReg_byte_toNat _ h, writeReg_get_low, BitVec.setWidth_setWidth_of_le _ (by decide), BitVec.setWidth_eq]

/-- Settles O16: an 8-bit name of a half is one of the two bytes of its word, and a write of the other half leaves that
byte. -/
theorem aliasesReadTheirHalves : Obligations.AliasesReadTheirHalves := by
  intro regs x v u hx
  have h := areHalves_of_mem hx
  refine ⟨h.readReg_low_of_write_word regs v, h.readReg_high_of_write_word regs v, ?_,
    h.readReg_high_of_write_low regs _, ?_, h.readReg_low_of_write_high regs _⟩
  · rw [h.readReg_word_toNat, h.readReg_high_of_write_low, readReg_writeReg_byte_toNat regs h.lowByte]
  · rw [h.readReg_word_toNat, h.readReg_low_of_write_high, readReg_writeReg_byte_toNat regs h.highByte]

/-! ## The memory primitives -/

/-- A `MemWrite` succeeds exactly when the last byte it covers lies inside the memory (10_state.md R34; log 10). -/
theorem memWrite_isSome {size a : Nat} {wide : Bool} {v : Word} {m : Memory} :
    (memWrite size m a wide v).isSome = true ↔ a + (if wide then 1 else 0) < size := by
  cases wide <;> simp [memWrite]

/-- The memory after a `MemWrite` holds the low byte at its address and, when `wide`, the high byte above it. -/
theorem memWrite_stored {size a : Nat} {wide : Bool} {v : Word} {m m' : Memory} (hm : m.wf size)
    (h : memWrite size m a wide v = some m') :
    m'.byteAt a = v.extractLsb' 0 8 ∧ (wide = true → m'.byteAt (a + 1) = v.extractLsb' 8 8) := by
  rw [← setWidth_eq_lowByte]
  unfold memWrite at h
  split at h <;> split at h <;> simp only [Option.some.injEq, reduceCtorEq] at h <;> subst h
  · have hwf := Memory.wf_setByte (v := v.setWidth 8) hm (show a < size by omega)
    simp [Memory.byteAt_setByte hwf, Memory.byteAt_setByte hm]
  · simp_all [Memory.byteAt_setByte hm]

/-- Settles O19: from the memory's laws of reading, of the bytes left alone and of the canonical form. -/
theorem memoryPrimitivesReadWrite : Obligations.MemoryPrimitivesReadWrite := by
  intro size a wide v m hm
  refine ⟨memWrite_isSome, fun m' h => ?_⟩
  obtain ⟨hlow, hhigh⟩ := memWrite_stored hm h
  refine ⟨memWrite_wf hm h, fun b hb => ?_, hlow, hhigh, ?_⟩
  · refine memWrite_other hm h (by omega) fun hw => ?_
    rw [if_pos hw] at hb
    omega
  · rw [memRead_memWrite hm h, truncTo, setWidth_eq_lowByte]

/-! ## What a completed record writes -/

theorem mem_supportedSet_of_execOp {t : InstrType} {op : ExecOp} (h : t.execOp = some op) :
    (t, op) ∈ supportedSet := by
  obtain ⟨l₁, l₂, hl, -⟩ := List.lookup_eq_some_iff.mp h
  rw [hl]
  simp

/-- MOV writes no flag (43_data_transfer.md R230). -/
theorem simMove_keeps_flags {I : Record} {s t : State} (h : simMove I s = .next t) : t.ctx.F = s.ctx.F := by
  obtain ⟨r, src, -, -, rfl⟩ := simMove_cases h
  rfl

/-- CMP writes no register (44_arithmetic.md R319). -/
theorem simCmp_keeps_regs {I : Record} {s t : State} (h : simCmp I s = .next t) : t.ctx.regs = s.ctx.regs := by
  rw [simCmp_cases h]
  rfl

/-- In the supported set, every type but ADD, SUB and CMP is a copy. -/
theorem supportedSet_copy : ∀ p ∈ supportedSet,
    p.1 ∉ [InstrType.ADD_RM_REG, .ADD_IMM_RM, .SUB_RM_REG, .SUB_IMM_RM, .CMP_RM_REG, .CMP_IMM_RM] →
      p.2 = .copy := by
  decide

/-- In the supported set, every type but MOV, ADD and SUB is a comparison. -/
theorem supportedSet_compare : ∀ p ∈ supportedSet,
    p.1 ∉ [InstrType.MOV_IMM_REG, .MOV_RM_REG, .MOV_RM_SR, .MOV_SR_RM, .ADD_RM_REG, .ADD_IMM_RM, .SUB_RM_REG,
      .SUB_IMM_RM] → p.2 = .compare := by
  decide

/-- The ten types of the supported set (42_execution_unit.md R199). -/
theorem supportedSet_types : ∀ p ∈ supportedSet,
    p.1 ∈ [InstrType.MOV_IMM_REG, .MOV_RM_REG, .MOV_RM_SR, .MOV_SR_RM, .ADD_RM_REG, .ADD_IMM_RM, .SUB_RM_REG,
      .SUB_IMM_RM, .CMP_RM_REG, .CMP_IMM_RM] := by
  decide

/-- Settles O46: a completed record's type fixes its operation; a copy keeps the flags, a comparison the registers. -/
theorem onlyListedTypesWriteFlagsAndRegisters : Obligations.OnlyListedTypesWriteFlagsAndRegisters := by
  intro I s t h
  obtain ⟨op, hop, hrun⟩ := simulateInstruction_cases h
  have hmem := mem_supportedSet_of_execOp hop
  refine ⟨fun hI => ?_, fun hI => ?_, supportedSet_types _ hmem⟩
  · obtain rfl : op = .copy := supportedSet_copy _ hmem hI
    exact simMove_keeps_flags hrun
  · obtain rfl : op = .compare := supportedSet_compare _ hmem hI
    exact simCmp_keeps_regs hrun

/-! ## The outcome of a pair of runs -/

/-- Runs of one outcome both complete, or both stop for one reason. -/
theorem SameOutcome.ends {R : State → State → Prop} {o o' : Out State} (h : SameOutcome R o o') :
    (∃ t t', o = .next t ∧ o' = .next t' ∧ R t t') ∨ (∃ f, o = .fault f ∧ o' = .fault f) ∨
      ∃ r, o = .refused r ∧ o' = .refused r := by
  cases o <;> cases o' <;> simp_all [SameOutcome]

theorem SameOutcome.mono {R Q : State → State → Prop} {o o' : Out State} (h : SameOutcome R o o')
    (hRQ : ∀ t u, R t u → Q t u) : SameOutcome Q o o' := by
  obtain ⟨t, t', rfl, rfl, ht⟩ | ⟨f, rfl, rfl⟩ | ⟨r, rfl, rfl⟩ := h.ends
  · exact hRQ t t' ht
  · rfl
  · rfl

/-- Two runs that start with one value go on alike. -/
theorem SameOutcome.andThen_same {R : State → State → Prop} {α : Type} (o : Out α) {k k' : α → Out State}
    (h : ∀ a, SameOutcome R (k a) (k' a)) : SameOutcome R (o.andThen k) (o.andThen k') := by
  cases o with
  | next a => exact h a
  | fault f => rfl
  | refused r => rfl

/-- Two runs that reach related states and go on alike from them have the same outcome. -/
theorem SameOutcome.andThen {R Q : State → State → Prop} {o o' : Out State} {k k' : State → Out State}
    (h : SameOutcome R o o') (hk : ∀ t u, R t u → SameOutcome Q (k t) (k' u)) :
    SameOutcome Q (o.andThen k) (o'.andThen k') := by
  obtain ⟨t, t', rfl, rfl, ht⟩ | ⟨f, rfl, rfl⟩ | ⟨r, rfl, rfl⟩ := h.ends
  · exact hk t t' ht
  · rfl
  · rfl

theorem SameOutcome.noMemory {R : State → State → Prop} (I : Record) {k k' : Out State} (h : SameOutcome R k k') :
    SameOutcome R (noMemory I k) (noMemory I k') := by
  unfold Machine.noMemory
  split
  · rfl
  · exact h

/-! ## Runs from two states that differ in flags, ip and memory

No step reads the flags, ip or the memory to choose what it does, so one argument serves all three: from two states that
agree on everything else, a step has the same outcome, and each of the three moves on both sides as far as it depends on
its own start. -/

/-- The two states agree on all that a step reads: everything but the flags, ip and the memory. -/
structure AgreeOnRead (s s' : State) : Prop where
  regs : s'.ctx.regs = s.ctx.regs
  dec : s'.dec = s.dec
  pos : s'.pos = s.pos
  stream : s'.stream = s.stream
  params : s'.params = s.params

/-- `t` is to `s` as `t'` is to `s'`: the two agree on all that a step reads, ip has moved by one amount, flags that
were equal are equal, and neither memory has changed. -/
structure MoveAlike (s s' t t' : State) : Prop extends AgreeOnRead t t' where
  ip : t'.ctx.ip - s'.ctx.ip = t.ctx.ip - s.ctx.ip
  flags : s'.ctx.F = s.ctx.F → t'.ctx.F = t.ctx.F
  mem : t.ctx.mem = s.ctx.mem
  mem' : t'.ctx.mem = s'.ctx.mem

theorem MoveAlike.start {s s' : State} (h : AgreeOnRead s s') : MoveAlike s s' s s' :=
  ⟨h, by simp, id, rfl, rfl⟩

section
variable {s s' t t' : State} (h : MoveAlike s s' t t')
include h

theorem MoveAlike.withRegs (regs : RegFile) : MoveAlike s s' (t.withRegs regs) (t'.withRegs regs) :=
  ⟨⟨rfl, h.dec, h.pos, h.stream, h.params⟩, h.ip, h.flags, h.mem, h.mem'⟩

theorem MoveAlike.withFlags {F F' : Flags} (hF : s'.ctx.F = s.ctx.F → F' = F) :
    MoveAlike s s' (t.withFlags F) (t'.withFlags F') :=
  ⟨⟨h.regs, h.dec, h.pos, h.stream, h.params⟩, h.ip, hF, h.mem, h.mem'⟩

theorem MoveAlike.advance (n : Nat) : MoveAlike s s' (t.advance n) (t'.advance n) := by
  refine ⟨⟨h.regs, h.dec, h.pos, h.stream, h.params⟩, ?_, h.flags, h.mem, h.mem'⟩
  simp only [State.advance_ctx_ip, advanceIp, h.params]
  split
  · rw [add_sub_right_comm, h.ip, add_sub_right_comm]
  · exact h.ip

theorem MoveAlike.nextPos : MoveAlike s s' { t with pos := t.pos + 1 } { t' with pos := t'.pos + 1 } :=
  ⟨⟨h.regs, h.dec, congrArg (· + 1) h.pos, h.stream, h.params⟩, h.ip, h.flags, h.mem, h.mem'⟩

theorem MoveAlike.withDec {d d' : Decoder} (hd : d' = d) :
    MoveAlike s s' { t with dec := d } { t' with dec := d' } :=
  ⟨⟨h.regs, hd, h.pos, h.stream, h.params⟩, h.ip, h.flags, h.mem, h.mem'⟩

theorem MoveAlike.emitted (i : Instr) (p : Nat) : MoveAlike s s' (t.emitted i p) (t'.emitted i p) := by
  cases hI : i.record p with
  | none => simpa only [State.emitted, hI] using h
  | some I =>
    rw [State.emitted_record t i p I hI, State.emitted_record t' i p I hI]
    exact (h.withDec (congrArg (Decoder.emit I) h.dec)).nextPos

end

section
variable {s s' : State} (h : AgreeOnRead s s')
include h

theorem simMove_alike (I : Record) : SameOutcome (MoveAlike s s') (simMove I s) (simMove I s') := by
  unfold simMove
  rw [h.regs]
  refine .noMemory I <| .andThen_same _ fun (dst, src) => .andThen_same _ fun v => .andThen_same _ fun regs => ?_
  exact ((MoveAlike.start h).withRegs regs).advance I.size

theorem simAlu_alike (op : AluOp) (I : Record) : SameOutcome (MoveAlike s s') (simAlu op I s) (simAlu op I s') := by
  unfold simAlu
  rw [h.regs, h.params]
  refine .noMemory I <| .andThen_same _ fun (dst, src) => .andThen_same _ fun a => .andThen_same _ fun b =>
    .andThen_same _ fun regs => ?_
  exact (((MoveAlike.start h).withRegs regs).withFlags fun hF => by rw [hF]).advance I.size

theorem simCmp_alike (I : Record) : SameOutcome (MoveAlike s s') (simCmp I s) (simCmp I s') := by
  unfold simCmp
  rw [h.regs]
  refine .noMemory I <| .andThen_same _ fun (dst, src) => .andThen_same _ fun _ => .andThen_same _ fun _ => ?_
  exact ((MoveAlike.start h).withFlags fun _ => rfl).advance I.size

/-- The execution unit runs a record alike from both states. -/
theorem simulateInstruction_alike (I : Record) :
    SameOutcome (MoveAlike s s') (simulateInstruction I s) (simulateInstruction I s') := by
  unfold simulateInstruction
  cases I.type.execOp with
  | none => rfl
  | some op =>
    cases op with
    | copy => exact simMove_alike h I
    | alu op => exact simAlu_alike h op I
    | compare => exact simCmp_alike h I

end

/-- The meaning of an instruction is the execution unit's step on its record (42_execution_unit.md R198). -/
theorem exec_eq_simulateInstruction {i : Instr} {p : Nat} {I : Record} (h : i.record p = some I) (s : State) :
    exec i s = simulateInstruction I s := by
  cases i <;> cases h <;> rfl

/-- An instruction without a record is refused, with the cursor as all that it reads (30_encoding.md R84; log 8). -/
theorem exec_refused_of_no_record {i : Instr} {p : Nat} (h : i.record p = none) {s s' : State} (hd : s'.dec = s.dec) :
    ∃ r, exec i s = .refused r ∧ exec i s' = .refused r := by
  cases i <;> cases h <;> exact ⟨_, rfl, by rw [← hd]; rfl⟩

section
variable {s s' : State} (h : AgreeOnRead s s')
include h

theorem exec_alike (i : Instr) : SameOutcome (MoveAlike s s') (exec i s) (exec i s') := by
  cases hI : i.record 0 with
  | some I =>
    rw [exec_eq_simulateInstruction hI, exec_eq_simulateInstruction hI]
    exact simulateInstruction_alike h I
  | none =>
    obtain ⟨r, hr, hr'⟩ := exec_refused_of_no_record hI h.dec
    rw [hr, hr']
    rfl

theorem stepDecode_alike : SameOutcome (MoveAlike s s') (stepDecode s) (stepDecode s') := by
  have hd : decode (s'.stream.drop s'.dec.cursor) = decode (s.stream.drop s.dec.cursor) := by rw [h.dec, h.stream]
  unfold stepDecode
  rw [hd]
  split
  · exact (MoveAlike.start h).withDec (by rw [h.dec])
  · rw [h.dec]
    rfl
  · rw [h.dec]
    exact (exec_alike h _).andThen fun t t' ht => ht.emitted _ _

/-- A step has the same outcome from two states that agree on all that it reads. -/
theorem step_alike : SameOutcome (MoveAlike s s') (step s) (step s') := by
  unfold step
  rw [h.dec, h.pos]
  split
  · exact (simulateInstruction_alike h _).andThen fun t t' ht => ht.nextPos
  · split
    · exact MoveAlike.start h
    · rfl
    · exact stepDecode_alike h

end

/-- Two states with equal fields are equal. -/
theorem State.eq_of_fields {t u : State} (regs : u.ctx.regs = t.ctx.regs) (F : u.ctx.F = t.ctx.F)
    (ip : u.ctx.ip = t.ctx.ip) (mem : u.ctx.mem = t.ctx.mem) (dec : u.dec = t.dec) (pos : u.pos = t.pos)
    (stream : u.stream = t.stream) (params : u.params = t.params) : u = t := by
  obtain ⟨⟨_, _, _, _⟩, _, _, _, _⟩ := t
  obtain ⟨⟨_, _, _, _⟩, _, _, _, _⟩ := u
  simp_all

/-- Settles O47: the state with other flags agrees with the first on all that a step reads, and has its ip
and memory. -/
theorem noStepReadsAFlag : Obligations.NoStepReadsAFlag := by
  intro s F
  have agree : AgreeOnRead s (s.withFlags F) := ⟨rfl, rfl, rfl, rfl, rfl⟩
  refine (step_alike agree).mono fun t u h => ?_
  exact State.eq_of_fields h.regs rfl (sub_left_inj.mp h.ip) (h.mem'.trans h.mem.symm) h.dec h.pos h.stream h.params

/-- Settles O48: the state with another ip agrees with the first on all that a step reads, and has its flags and
memory. -/
theorem instructionPointerDoesNotSelect : Obligations.InstructionPointerDoesNotSelect := by
  intro s v
  have agree : AgreeOnRead s (s.withIp v) := ⟨rfl, rfl, rfl, rfl, rfl⟩
  refine (step_alike agree).mono fun t u h => ⟨?_, h.ip⟩
  exact State.eq_of_fields h.regs (h.flags rfl) rfl (h.mem'.trans h.mem.symm) h.dec h.pos h.stream h.params

/-! ## Where ip goes -/

/-- Without IP_ADVANCES a step leaves ip alone (10_state.md R33). -/
theorem step_keeps_ip {s t : State} (hp : s.params.ipAdvances = false) (h : step s = .next t) :
    t.ctx.ip = s.ctx.ip := by
  have kept : ∀ {n u}, Frame n s u → u.ctx.ip = s.ctx.ip := fun hf => by simpa [hp] using hf.ip
  obtain ⟨I, u, -, hu, rfl⟩ | ⟨-, -, rfl⟩ | ⟨-, -, -, rfl⟩ | ⟨i, rest, u, -, -, -, hu, rfl⟩ := step_cases h
  · exact (kept (simulateInstruction_frame hu) :)
  · rfl
  · rfl
  · rw [State.emitted_ctx]
    exact kept (exec_frame hu)

/-- Settles O49: from the frame of a completed record, and from a run's first record when it fails. -/
theorem instructionPointerAdvance : Obligations.InstructionPointerAdvance := by
  refine ⟨fun I s t h => ?_, fun s t => step_keeps_ip, rfl,
    fun I rest s => ⟨fun r hr => simulate_cons_refused hr rest, fun f hf => simulate_cons_fault hf rest⟩⟩
  have hip := (simulateInstruction_frame h).ip
  refine ⟨fun hp => ?_, fun hp => by simpa [hp] using hip⟩
  rw [hip, if_pos hp, BitVec.toNat_add, BitVec.toNat_ofNat, Nat.add_mod_mod]

end Sys2Proof.Machine
end

section
/-! PROOFS. Family 20_memory.md: the effective address. -/

namespace Sys2Proof.Machine

/-- A word sum read as numbers, the second term with its sign: a negative term is 2^16 too high in `toNat`, which the
wrap takes away. -/
theorem toNat_add_signed (v d : Word) : ((v + d).toNat : Int) = (v.toNat + d.toInt) % 65536 := by
  rw [BitVec.toNat_add, BitVec.toInt_eq_toNat_cond]
  split <;> omega

/-- The wrap inside `a + b` does not show after the wrap of the whole sum. -/
theorem toNat_add_add_signed (a b d : Word) :
    ((a + b + d).toNat : Int) = (a.toNat + b.toNat + d.toInt) % 65536 := by
  rw [toNat_add_signed, BitVec.toNat_add, Int.natCast_mod, Int.natCast_add]
  exact Int.emod_add_emod ..

/-- Settles O18: a tag names two base registers, one, or none, and each of these sums wraps once. -/
theorem effectiveAddressFormulas : Obligations.EffectiveAddressFormulas := by
  rintro regs ⟨tag, disp⟩
  cases tag with
  | BX_SI | BX_SI_D8 | BX_SI_D16 | BX_DI | BX_DI_D8 | BX_DI_D16
  | BP_SI | BP_SI_D8 | BP_SI_D16 | BP_DI | BP_DI_D8 | BP_DI_D16 => exact toNat_add_add_signed _ _ disp
  | SI | SI_D8 | SI_D16 | DI | DI_D8 | DI_D16
  | BP_D8 | BP_D16 | BX | BX_D8 | BX_D16 => exact toNat_add_signed _ disp
  | DIRECT => exact toNat_add_signed 0 disp

end Sys2Proof.Machine
end

section
/-! PROOFS. Family 30_encoding.md: the opcode table, the decoder's parts and their inverses, and the encodings that do
not decode. -/

namespace Sys2Proof

open Machine

/-! ## The rows of the opcode table

A row is a format and two bytes: what it wants of b1 and of b2 outside the format's fields. -/

/-- The rows of the decodable types: the table without the refused forms. -/
def decodableRows : List Row :=
  rowsDataTransfer ++ rowsArithmetic ++ rowsLogic ++ rowsStringOps ++ rowsControlTransfer ++ rowsProcessorControl

theorem opcodeTable_eq : opcodeTable = decodableRows ++ rowsRefused := rfl

theorem mem_opcodeTable {row : Row} : row ∈ opcodeTable ↔ row ∈ decodableRows ∨ row ∈ rowsRefused := by
  rw [opcodeTable_eq, List.mem_append]

/-- The encoding format of a row's instruction; none for a refused form (30_encoding.md R71, R84). -/
def RowKind.format : RowKind → Option Format
  | .O _ | .Ow _ => some .O
  | .AA _ => some .AA
  | .R _ => some .R
  | .S _ => some .S
  | .J8 _ => some .J8
  | .I8 _ => some .I8
  | .I16 _ => some .I16
  | .RI _ => some .RI
  | .Pfix _ | .Pvar _ => some .P
  | .AM _ => some .AM
  | .AI _ => some .AI
  | .MRdw _ | .MRw _ | .MR _ => some .MR
  | .MRIsw _ | .MRIw _ => some .MRI
  | .Mw _ | .M _ => some .M
  | .MV _ => some .MV
  | .MS _ => some .MS
  | .x _ | .xEsc _ | .xSeg _ | .xBase _ => none

/-- The bits of b1 that are no field of the row's format (30_encoding.md R72). -/
def RowKind.mask1 : RowKind → Byte
  | .O _ | .AA _ | .J8 _ | .I8 _ | .I16 _ | .MR _ | .M _ | .MS _ | .x _ | .xBase _ => 0xFF
  | .Ow _ | .Pfix _ | .Pvar _ | .AM _ | .AI _ | .MRw _ | .MRIw _ | .Mw _ => 0xFE
  | .MRdw _ | .MRIsw _ | .MV _ => 0xFC
  | .R _ | .xEsc _ => 0xF8
  | .RI _ => 0xF0
  | .S _ | .xSeg _ => 0xE7

/-- The bits of b2 that the row's format fixes: the reg field, its top bit, the whole byte, or none. -/
def RowKind.mask2 : RowKind → Byte
  | .MRIsw _ | .MRIw _ | .Mw _ | .M _ | .MV _ => 0x38
  | .MS _ => 0x20
  | .AA _ => 0xFF
  | .O _ | .Ow _ | .R _ | .S _ | .J8 _ | .I8 _ | .I16 _ | .RI _ | .Pfix _ | .Pvar _ | .AM _ | .AI _ | .MRdw _ | .MRw _
  | .MR _ | .x _ | .xEsc _ | .xSeg _ | .xBase _ => 0

/-- What the row wants of b1. -/
def Row.byte1 (row : Row) : Byte := row.pattern.extractLsb' 8 8

/-- What the row wants of b2. -/
def Row.byte2 (row : Row) : Byte := row.pattern.extractLsb' 0 8

theorem Row.pattern_eq (row : Row) : row.pattern = row.byte1 ++ row.byte2 :=
  (BitVec.extractLsb'_append_extractLsb' (w := 8) (len := 8)).symm

/-- The row matches a first byte and, where its format fixes bits of b2, a second one. -/
structure Row.Matches (row : Row) (b1 : Byte) (b2 : Option Byte) : Prop where
  first : b1 &&& row.kind.mask1 = row.byte1
  second : row.kind.mask2 ≠ 0 → ∃ c, b2 = some c ∧ c &&& row.kind.mask2 = row.byte2

/-- The row's mask is its format's, and its pattern sets no bit outside the mask; MS leaves b2[5] clear. -/
structure Row.Canonical (row : Row) : Prop where
  mask : row.mask = row.kind.mask1 ++ row.kind.mask2
  first : row.byte1 &&& row.kind.mask1 = row.byte1
  second : row.byte2 &&& row.kind.mask2 = row.byte2
  topBit : row.kind.mask2 = 0x20 → row.byte2 = 0

theorem Row.canonical_iff (row : Row) : row.Canonical ↔ row.mask = row.kind.mask1 ++ row.kind.mask2 ∧
    row.byte1 &&& row.kind.mask1 = row.byte1 ∧ row.byte2 &&& row.kind.mask2 = row.byte2 ∧
    (row.kind.mask2 = 0x20 → row.byte2 = 0) :=
  ⟨fun ⟨h1, h2, h3, h4⟩ => ⟨h1, h2, h3, h4⟩, fun ⟨h1, h2, h3, h4⟩ => ⟨h1, h2, h3, h4⟩⟩

/-- The key that the classifier looks up matches a row byte by byte. -/
theorem Row.Canonical.key_iff {row : Row} (h : row.Canonical) (b1 c : Byte) :
    (b1 ++ c) &&& row.mask = row.pattern ↔ b1 &&& row.kind.mask1 = row.byte1 ∧ c &&& row.kind.mask2 = row.byte2 := by
  rw [h.mask, row.pattern_eq, BitVec.and_append]
  constructor
  · intro e
    have e1 := congrArg (BitVec.extractLsb' 8 8) e
    have e2 := congrArg (BitVec.extractLsb' 0 8) e
    simp only [BitVec.extractLsb'_append_eq_left, BitVec.extractLsb'_append_eq_right] at e1 e2
    exact ⟨e1, e2⟩
  · rintro ⟨e1, e2⟩
    rw [e1, e2]

/-! ## Facts read off the table, row by row -/

/-- A decidable fact about the members of a list, checked one by one. -/
theorem forall_mem_of_all {α : Type} {l : List α} {P : α → Prop} [DecidablePred P]
    (h : l.all (fun a => decide (P a)) = true) : ∀ a ∈ l, P a := by
  simpa using h

theorem canonical_of_mem : ∀ row ∈ opcodeTable, row.Canonical := by
  simp only [Row.canonical_iff]
  exact forall_mem_of_all (by decide)

theorem format_isSome_of_mem : ∀ row ∈ decodableRows, row.kind.format.isSome = true := forall_mem_of_all (by decide)

theorem needsB2_iff {b1 : Byte} : needsB2 b1 = true ↔ b1 ∈ inspectsB2 := List.contains_iff_mem

/-- A byte is its upper six bits with its own d and w. -/
theorem opDW_fields (b : Byte) : opDW (b &&& 0xFC) (bitD b) (bitW b) = b := by
  revert b; decide

/-- The first bytes of a row that fixes bits of b2 differ in d and w only, and b2 is inspected for all of them. -/
theorem inspected_of_mask2 : ∀ row ∈ opcodeTable, row.kind.mask2 ≠ 0 → row.kind.mask1 &&& 0xFC = 0xFC ∧
    ∀ d w : Bool, opDW (row.byte1 &&& 0xFC) d w &&& row.kind.mask1 = row.byte1 →
      opDW (row.byte1 &&& 0xFC) d w ∈ inspectsB2 :=
  forall_mem_of_all (by decide)

/-- Where a row fixes bits of b2, the classifier inspects b2 (40_decoder.md R140). -/
theorem needsB2_of_mask2 {row : Row} (hr : row ∈ opcodeTable) (h2 : row.kind.mask2 ≠ 0) {b1 : Byte}
    (h1 : b1 &&& row.kind.mask1 = row.byte1) : needsB2 b1 = true := by
  obtain ⟨hm, hi⟩ := inspected_of_mask2 row hr h2
  have hb : b1 &&& 0xFC = row.byte1 &&& 0xFC := by rw [← h1, BitVec.and_assoc, hm]
  have hd := hi (bitD b1) (bitW b1)
  rw [← hb, opDW_fields] at hd
  exact needsB2_iff.mpr (hd h1)

/-- Where the classifier inspects b2, the rows that decode fix bits of it. -/
theorem mask2_of_inspected : ∀ b1 ∈ inspectsB2, ∀ row ∈ decodableRows, b1 &&& row.kind.mask1 = row.byte1 →
    row.kind.mask2 ≠ 0 := by
  intro b1 hb
  apply forall_mem_of_all
  revert b1
  exact forall_mem_of_all (by decide)

/-- No key matches two rows of the list: some bit of both masks has two values. -/
def pairwiseDisjoint : List Row → Bool
  | [] => true
  | a :: l => l.all (fun b => a.mask &&& b.mask &&& (a.pattern ^^^ b.pattern) != 0) && pairwiseDisjoint l

theorem decodableRows_disjoint : pairwiseDisjoint decodableRows = true := by decide

/-- A key that matches two rows leaves no bit of both masks with two values. -/
theorem masks_agree_of_matches {key : BitVec 16} {a b : Row} (ha : key &&& a.mask = a.pattern)
    (hb : key &&& b.mask = b.pattern) : a.mask &&& b.mask &&& (a.pattern ^^^ b.pattern) = 0 := by
  rw [← ha, ← hb]
  ext i hi
  simp only [BitVec.getElem_and, BitVec.getElem_xor, BitVec.ofNat_eq_ofNat, BitVec.getElem_zero]
  cases key[i] <;> cases a.mask[i] <;> cases b.mask[i] <;> rfl

theorem find?_of_disjoint {key : BitVec 16} {row : Row} (hk : key &&& row.mask = row.pattern) {l : List Row}
    (hl : pairwiseDisjoint l = true) (hr : row ∈ l) : l.find? (fun r => key &&& r.mask == r.pattern) = some row := by
  induction l with
  | nil => cases hr
  | cons a l ih =>
    simp only [pairwiseDisjoint, Bool.and_eq_true, List.all_eq_true, bne_iff_ne] at hl
    obtain ⟨ha, hl⟩ := hl
    cases hr with
    | head => exact List.find?_cons_of_pos (beq_iff_eq.mpr hk)
    | tail _ hr =>
      have hne : key &&& a.mask ≠ a.pattern := fun e => ha row hr (masks_agree_of_matches e hk)
      rw [List.find?_cons_of_neg (by simpa using hne)]
      exact ih hl hr

/-! ## The classifier -/

theorem lookupRow_eq_some_of_mem {key : BitVec 16} {row : Row} (hr : row ∈ decodableRows)
    (hk : key &&& row.mask = row.pattern) : lookupRow key = some row := by
  rw [lookupRow, opcodeTable_eq, List.find?_append, find?_of_disjoint hk decodableRows_disjoint hr]
  rfl

/-- The low byte of the key: b2 where the classifier inspects it, else 0. -/
def keyByte (b1 : Byte) (b2 : Option Byte) : Byte := if needsB2 b1 then b2.getD 0 else 0

theorem classify_eq_of_present {b1 : Byte} {b2 : Option Byte} (h : needsB2 b1 = true → b2.isSome = true) :
    classify b1 b2 = (lookupRow (b1 ++ keyByte b1 b2)).elim (.error .Illegal) .ok := by
  unfold classify keyByte
  cases hn : needsB2 b1 with
  | false =>
    simp only [Bool.false_eq_true, if_false]
    cases lookupRow (b1 ++ (0 : Byte)) <;> rfl
  | true =>
    obtain ⟨c, rfl⟩ := Option.isSome_iff_exists.mp (h hn)
    simp only [if_true, Option.getD_some]
    cases lookupRow (b1 ++ c) <;> rfl

theorem classify_eq_truncated {b1 : Byte} (h : needsB2 b1 = true) : classify b1 none = .error .Truncated := by
  simp only [classify, h]

theorem present_of_classify {b1 : Byte} {b2 : Option Byte} {row : Row} (h : classify b1 b2 = .ok row)
    (hn : needsB2 b1 = true) : b2.isSome = true := by
  cases b2 with
  | some c => rfl
  | none => rw [classify_eq_truncated hn] at h; cases h

/-- A row of the table is found by its key exactly where it matches the bytes. -/
theorem key_iff_matches {row : Row} (hr : row ∈ opcodeTable) {b1 : Byte} {b2 : Option Byte}
    (h : needsB2 b1 = true → b2.isSome = true) :
    (b1 ++ keyByte b1 b2) &&& row.mask = row.pattern ↔ row.Matches b1 b2 := by
  have hc := canonical_of_mem row hr
  rw [hc.key_iff]
  by_cases h2 : row.kind.mask2 = 0
  · have h0 : row.byte2 = 0 := by simpa [h2] using hc.second.symm
    simp only [h2, h0, BitVec.ofNat_eq_ofNat, BitVec.and_zero, and_true]
    exact ⟨fun h1 => ⟨h1, fun hne => absurd h2 hne⟩, Row.Matches.first⟩
  · constructor
    · rintro ⟨h1, hk⟩
      have hn := needsB2_of_mask2 hr h2 h1
      obtain ⟨c, rfl⟩ := Option.isSome_iff_exists.mp (h hn)
      refine ⟨h1, fun _ => ⟨c, rfl, ?_⟩⟩
      simpa only [keyByte, hn, if_true, Option.getD_some] using hk
    · rintro ⟨h1, hs⟩
      obtain ⟨c, rfl, hk⟩ := hs h2
      refine ⟨h1, ?_⟩
      simpa only [keyByte, needsB2_of_mask2 hr h2 h1, if_true, Option.getD_some] using hk

/-- The row that the classifier gives is one of the table, and matches. -/
theorem matches_of_classify {b1 : Byte} {b2 : Option Byte} {row : Row} (h : classify b1 b2 = .ok row) :
    row ∈ opcodeTable ∧ row.Matches b1 b2 := by
  have hp := present_of_classify h
  rw [classify_eq_of_present hp] at h
  cases hl : lookupRow (b1 ++ keyByte b1 b2) with
  | none => rw [hl] at h; cases h
  | some r =>
    rw [hl] at h
    cases h
    have hr : row ∈ opcodeTable := List.mem_of_find?_eq_some hl
    exact ⟨hr, (key_iff_matches hr hp).mp (beq_iff_eq.mp (List.find?_some hl :))⟩

/-- A row that decodes is the classifier's answer wherever it matches (30_encoding.md R89, R90). -/
theorem classify_of_matches {b1 : Byte} {b2 : Option Byte} {row : Row} (hr : row ∈ decodableRows)
    (h : row.Matches b1 b2) : classify b1 b2 = .ok row := by
  have hp : needsB2 b1 = true → b2.isSome = true := fun hn => by
    obtain ⟨c, rfl, -⟩ := h.second (mask2_of_inspected b1 (needsB2_iff.mp hn) row hr h.first)
    rfl
  have hk := (key_iff_matches (mem_opcodeTable.mpr (.inl hr)) hp).mpr h
  rw [classify_eq_of_present hp, lookupRow_eq_some_of_mem hr hk, Option.elim_some]

/-- Where no row of the table matches, the classifier answers Illegal (30_encoding.md R85). -/
theorem classify_of_no_match {b1 : Byte} {b2 : Option Byte} (hp : needsB2 b1 = true → b2.isSome = true)
    (h : ∀ row ∈ opcodeTable, ¬ row.Matches b1 b2) : classify b1 b2 = .error .Illegal := by
  have hl : lookupRow (b1 ++ keyByte b1 b2) = none := List.find?_eq_none.mpr fun row hr e =>
    h row hr ((key_iff_matches hr hp).mp (beq_iff_eq.mp e))
  rw [classify_eq_of_present hp, hl, Option.elim_none]

/-- Where a refused form matches and no row that decodes does, the classifier gives a refused form. -/
theorem classify_refused {b1 : Byte} {b2 : Option Byte} (hp : needsB2 b1 = true → b2.isSome = true)
    (hr : ∃ row ∈ rowsRefused, row.Matches b1 b2) (hd : ∀ row ∈ decodableRows, ¬ row.Matches b1 b2) :
    ∃ row ∈ rowsRefused, row.Matches b1 b2 ∧ classify b1 b2 = .ok row := by
  cases hc : classify b1 b2 with
  | ok row =>
    obtain ⟨hm, hrow⟩ := matches_of_classify hc
    exact ⟨row, (mem_opcodeTable.mp hm).resolve_left fun h => hd row h hrow, hrow, rfl⟩
  | error e =>
    obtain ⟨row, hm, hrow⟩ := hr
    have ht := mem_opcodeTable.mpr (.inr hm)
    have hk := (key_iff_matches ht hp).mpr hrow
    rw [classify_eq_of_present hp] at hc
    cases hl : lookupRow (b1 ++ keyByte b1 b2) with
    | none => exact absurd (beq_iff_eq.mpr hk) (List.find?_eq_none.mp hl row ht)
    | some r => rw [hl] at hc; cases hc

/-! ## The parts of an instruction, read

Each reader takes from the front exactly the bytes that encode what it answers. -/

theorem withByte_eq_some {bs : List Byte} {k : Byte → List Byte → Option (Instr × List Byte)} {x : Instr × List Byte}
    (h : withByte bs k = some x) : ∃ b r, bs = b :: r ∧ k b r = some x := by
  cases bs with
  | nil => cases h
  | cons b r => exact ⟨b, r, rfl, h⟩

theorem setWidth_signExtend (b : Byte) : (b.signExtend 16).setWidth 8 = b := by
  revert b; decide

theorem fitsByte_signExtend (b : Byte) : fitsByte (b.signExtend 16) = true := by
  simp [fitsByte, setWidth_signExtend]

theorem lowByte_le16 (lo hi : Byte) : (le16 lo hi).setWidth 8 = lo := by
  rw [setWidth_eq_lowByte]
  exact BitVec.extractLsb'_append_eq_right

theorem highByte_le16 (lo hi : Byte) : (le16 lo hi).extractLsb' 8 8 = hi := BitVec.extractLsb'_append_eq_left

/-- A displacement that was read is one that encodes to the bytes consumed (30_encoding.md R82). -/
theorem readDisp_eq_some {n : Nat} {bs r : List Byte} {v : Word} (h : readDisp n bs = some (v, r)) :
    wfDisp n v = true ∧ bs = encDisp n v ++ r := by
  match n, bs, h with
  | 0, _, h => cases h; exact ⟨rfl, rfl⟩
  | 1, b :: _, h => cases h; exact ⟨fitsByte_signExtend b, by simp [encDisp, setWidth_signExtend]⟩
  | n + 2, lo :: hi :: _, h => cases h; exact ⟨rfl, by simp [encDisp, lowByte_le16, highByte_le16]⟩

/-- An immediate that was read is one that encodes to the bytes consumed (30_encoding.md R83). -/
theorem readImm_eq_some {wide : Bool} {bs r : List Byte} {v : Word} (h : readImm wide bs = some (v, r)) :
    wfImm wide v = true ∧ bs = encImm wide v ++ r := by
  match wide, bs, h with
  | false, b :: _, h => cases h; exact ⟨fitsByte_signExtend b, by simp [encImm, setWidth_signExtend]⟩
  | true, lo :: hi :: _, h => cases h; exact ⟨rfl, by simp [encImm, lowByte_le16, highByte_le16]⟩

/-- An rm operand that was read is one that encodes to the bytes consumed, b2 in front (30_encoding.md R80 to R82). -/
theorem readRM_eq_some {w : Bool} {b2 : Byte} {bs r : List Byte} {rm : RMOperand} (h : readRM w b2 bs = some (rm, r)) :
    wfRM w rm = true ∧ b2 :: bs = encRM (b2Reg b2) rm ++ r := by
  have hb := modRegRm_fields b2
  unfold readRM at h
  split at h
  · rename_i hm
    cases h
    rw [hm] at hb
    exact ⟨wfReg_regName _ _, by rw [encRM, regCode_regName, hb]; rfl⟩
  · rename_i hm
    split at h
    · rename_i disp r' hd
      cases h
      obtain ⟨hwf, rfl⟩ := readDisp_eq_some hd
      obtain ⟨hmod, hrm⟩ := eaTag_fields _ (b2Rm b2) hm
      exact ⟨hwf, by simp [encRM, hmod, hrm, hb]⟩
    · cases h

theorem withImm_eq_some {wide : Bool} {bs : List Byte} {k : Word → List Byte → Option (Instr × List Byte)}
    {x : Instr × List Byte} (h : withImm wide bs k = some x) :
    ∃ v r, wfImm wide v = true ∧ bs = encImm wide v ++ r ∧ k v r = some x := by
  unfold withImm at h
  split at h
  · rename_i v r hv
    obtain ⟨hwf, hbs⟩ := readImm_eq_some hv
    exact ⟨v, r, hwf, hbs, h⟩
  · cases h

theorem withRM_eq_some {w : Bool} {bs : List Byte} {k : Byte → RMOperand → List Byte → Option (Instr × List Byte)}
    {x : Instr × List Byte} (h : withRM w bs k = some x) :
    ∃ b2 rm r, wfRM w rm = true ∧ bs.head? = some b2 ∧ bs = encRM (b2Reg b2) rm ++ r ∧ k b2 rm r = some x := by
  unfold withRM at h
  split at h
  · cases h
  · rename_i b2 r
    split at h
    · rename_i rm r' hr
      obtain ⟨hwf, hbs⟩ := readRM_eq_some hr
      exact ⟨b2, rm, r', hwf, rfl, hbs, h⟩
    · cases h

/-! ## First bytes: what a format's mask leaves is its fields (30_encoding.md R72) -/

section
variable {b1 base : Byte}

theorem eq_of_match_all (h : b1 &&& 0xFF = base) : b1 = base := by
  rw [← h]; exact BitVec.and_allOnes.symm

theorem eq_opW_of_match (h : b1 &&& 0xFE = base) : b1 = opW base (bitW b1) := by
  subst h; revert b1; decide

theorem eq_opDW_of_match (h : b1 &&& 0xFC = base) : b1 = opDW base (bitD b1) (bitW b1) := by
  subst h; revert b1; decide

theorem eq_reg_of_match (h : b1 &&& 0xF8 = base) : b1 = base ||| (b1Reg b1).setWidth 8 := by
  subst h; revert b1; decide

theorem eq_sr_of_match (h : b1 &&& 0xE7 = base) : b1 = base ||| ((b1Sr b1).setWidth 8 <<< 3) := by
  subst h; revert b1; decide

theorem eq_wreg_of_match (h : b1 &&& 0xF0 = base) :
    b1 = base ||| (if b1.getLsbD 3 then 8 else 0) ||| (b1Reg b1).setWidth 8 := by
  subst h; revert b1; decide

theorem match_opW (h : base &&& 0xFE = base) (w : Bool) : opW base w &&& 0xFE = base ∧ bitW (opW base w) = w := by
  revert base w; decide

theorem match_opDW (h : base &&& 0xFC = base) (d w : Bool) :
    opDW base d w &&& 0xFC = base ∧ bitD (opDW base d w) = d ∧ bitW (opDW base d w) = w := by
  revert base d w; decide

theorem match_reg (h : base &&& 0xF8 = base) (f : BitVec 3) :
    (base ||| f.setWidth 8) &&& 0xF8 = base ∧ b1Reg (base ||| f.setWidth 8) = f := by
  revert base f; decide

theorem match_sr (h : base &&& 0xE7 = base) (f : BitVec 2) :
    (base ||| (f.setWidth 8 <<< 3)) &&& 0xE7 = base ∧ b1Sr (base ||| (f.setWidth 8 <<< 3)) = f := by
  revert base f; decide

theorem match_wreg (h : base &&& 0xF0 = base) (w : Bool) (f : BitVec 3) :
    (base ||| (if w then 8 else 0) ||| f.setWidth 8) &&& 0xF0 = base ∧
    (base ||| (if w then 8 else 0) ||| f.setWidth 8).getLsbD 3 = w ∧
    b1Reg (base ||| (if w then 8 else 0) ||| f.setWidth 8) = f := by
  revert base w f; decide

end

/-! ## The layout of a row's instructions -/

/-- `RowKind.Lays base lo kind i wf bytes`: `i` is an instruction of a row of the format `kind` that wants `base` of b1
and `lo` of b2; `wf` says whether its fields can be encoded, and `bytes` is their encoding (30_encoding.md R71). -/
inductive RowKind.Lays (base lo : Byte) : RowKind → Instr → Bool → List Byte → Prop
  | O (i : Instr) : Lays base lo (.O i) i true [base]
  | Ow (mk : Bool → Instr) (w : Bool) : Lays base lo (.Ow mk) (mk w) true [opW base w]
  | AA (i : Instr) : Lays base lo (.AA i) i true [base, lo]
  | R (mk : RegName → Instr) (reg : RegName) :
    Lays base lo (.R mk) (mk reg) (wfReg true reg) [base ||| (regCode reg).setWidth 8]
  | S (mk : SegReg → Instr) (sr : SegReg) : Lays base lo (.S mk) (mk sr) true [base ||| (sr.code.setWidth 8 <<< 3)]
  | J8 (mk : Byte → Instr) (disp : Byte) : Lays base lo (.J8 mk) (mk disp) true [base, disp]
  | I8 (mk : Byte → Instr) (imm : Byte) : Lays base lo (.I8 mk) (mk imm) true [base, imm]
  | I16 (mk : Word → Instr) (imm : Word) : Lays base lo (.I16 mk) (mk imm) true (base :: encImm true imm)
  | RI (mk : Bool → RegName → Word → Instr) (w : Bool) (reg : RegName) (imm : Word) :
    Lays base lo (.RI mk) (mk w reg imm) (wfReg w reg && wfImm w imm)
      ((base ||| (if w then 8 else 0) ||| (regCode reg).setWidth 8) :: encImm w imm)
  | Pfix (mk : Bool → Byte → Instr) (w : Bool) (port : Byte) :
    Lays base lo (.Pfix mk) (mk w port) true [opW base w, port]
  | Pvar (mk : Bool → Instr) (w : Bool) : Lays base lo (.Pvar mk) (mk w) true [opW base w]
  | AM (mk : Bool → Word → Instr) (w : Bool) (addr : Word) :
    Lays base lo (.AM mk) (mk w addr) true (opW base w :: encImm true addr)
  | AI (mk : Bool → Word → Instr) (w : Bool) (imm : Word) :
    Lays base lo (.AI mk) (mk w imm) (wfImm w imm) (opW base w :: encImm w imm)
  | MRdw (mk : Bool → Bool → RegName → RMOperand → Instr) (d w : Bool) (reg : RegName) (rm : RMOperand) :
    Lays base lo (.MRdw mk) (mk d w reg rm) (wfReg w reg && wfRM w rm) (opDW base d w :: encRM (regCode reg) rm)
  | MRw (mk : Bool → RegName → RMOperand → Instr) (w : Bool) (reg : RegName) (rm : RMOperand) :
    Lays base lo (.MRw mk) (mk w reg rm) (wfReg w reg && wfRM w rm) (opW base w :: encRM (regCode reg) rm)
  | MR (mk : RegName → RMOperand → Instr) (reg : RegName) (rm : RMOperand) :
    Lays base lo (.MR mk) (mk reg rm) (wfReg true reg && wfRM true rm) (base :: encRM (regCode reg) rm)
  | MRIsw (mk : Bool → Bool → RMOperand → Word → Instr) (s w : Bool) (rm : RMOperand) (imm : Word) :
    Lays base lo (.MRIsw mk) (mk s w rm imm) (wfRM w rm && wfImm (w && !s) imm)
      (opDW base s w :: (encRM (b2Reg lo) rm ++ encImm (w && !s) imm))
  | MRIw (mk : Bool → RMOperand → Word → Instr) (w : Bool) (rm : RMOperand) (imm : Word) :
    Lays base lo (.MRIw mk) (mk w rm imm) (wfRM w rm && wfImm w imm)
      (opW base w :: (encRM (b2Reg lo) rm ++ encImm w imm))
  | Mw (mk : Bool → RMOperand → Instr) (w : Bool) (rm : RMOperand) :
    Lays base lo (.Mw mk) (mk w rm) (wfRM w rm) (opW base w :: encRM (b2Reg lo) rm)
  | M (mk : RMOperand → Instr) (rm : RMOperand) :
    Lays base lo (.M mk) (mk rm) (wfRM true rm) (base :: encRM (b2Reg lo) rm)
  | MV (mk : Bool → Bool → RMOperand → Instr) (v w : Bool) (rm : RMOperand) :
    Lays base lo (.MV mk) (mk v w rm) (wfRM w rm) (opDW base v w :: encRM (b2Reg lo) rm)
  | MS (mk : SegReg → RMOperand → Instr) (sr : SegReg) (rm : RMOperand) :
    Lays base lo (.MS mk) (mk sr rm) (wfRM true rm) (base :: encRM (sr.code.setWidth 3) rm)

/-- `i` is an instruction of the row with the encoding `bytes`, and `wf` says whether its fields can be encoded. -/
def Row.Lays (row : Row) (i : Instr) (wf : Bool) (bytes : List Byte) : Prop :=
  RowKind.Lays row.byte1 row.byte2 row.kind i wf bytes

/-- The index of the instruction's row in the table: its type's tag (30_encoding.md R91). -/
def Instr.rowIndex (i : Instr) : Nat := (i.type.map InstrType.tag).getD decodableRows.length

/-- Every instruction that is no refused form is laid out by its row. -/
theorem lays_of_rowIndex {i : Instr} (h : i.isRefused = false) :
    ∃ row, decodableRows[i.rowIndex]? = some row ∧ row.Lays i i.WellFormed (encode i) := by
  cases i with
  | xlat | lahf | sahf | pushf | popf | aaa | daa | aas | das | cbw | cwd | rep | repne | ret | retf | int3 | into
  | iret | clc | cmc | stc | cld | std | cli | sti | hlt | wait | lock => exact ⟨_, rfl, .O _⟩
  | aam | aad => exact ⟨_, rfl, .AA _⟩
  | movs w | cmps w | scas w | lods w | stos w => exact ⟨_, rfl, .Ow _ w⟩
  | pushReg reg | popReg reg | xchgRegAcc reg | incReg reg | decReg reg => exact ⟨_, rfl, .R _ reg⟩
  | pushSr sr | popSr sr => exact ⟨_, rfl, .S _ sr⟩
  | je disp | jl disp | jle disp | jb disp | jbe disp | jp disp | jo disp | js disp | jne disp | jnl disp | jnle disp
  | jnb disp | jnbe disp | jnp disp | jno disp | jns disp | loop disp | loopz disp | loopnz disp | jcxz disp =>
    exact ⟨_, rfl, .J8 _ disp⟩
  | int imm => exact ⟨_, rfl, .I8 _ imm⟩
  | retImm imm | retfImm imm => exact ⟨_, rfl, .I16 _ imm⟩
  | movImmReg w reg imm => exact ⟨_, rfl, .RI _ w reg imm⟩
  | inFixed w port | outFixed w port => exact ⟨_, rfl, .Pfix _ w port⟩
  | inVar w | outVar w => exact ⟨_, rfl, .Pvar _ w⟩
  | movMemAcc w addr | movAccMem w addr => exact ⟨_, rfl, .AM _ w addr⟩
  | addImmAcc w imm | adcImmAcc w imm | subImmAcc w imm | sbbImmAcc w imm | cmpImmAcc w imm | andImmAcc w imm
  | testImmAcc w imm | orImmAcc w imm | xorImmAcc w imm => exact ⟨_, rfl, .AI _ w imm⟩
  | movRmReg d w reg rm | addRmReg d w reg rm | adcRmReg d w reg rm | subRmReg d w reg rm | sbbRmReg d w reg rm
  | cmpRmReg d w reg rm | andRmReg d w reg rm | orRmReg d w reg rm | xorRmReg d w reg rm =>
    exact ⟨_, rfl, .MRdw _ d w reg rm⟩
  | xchgRmReg w reg rm | testRmReg w reg rm => exact ⟨_, rfl, .MRw _ w reg rm⟩
  | lea reg rm | lds reg rm | les reg rm => exact ⟨_, rfl, .MR _ reg rm⟩
  | addImmRm s w rm imm | adcImmRm s w rm imm | subImmRm s w rm imm | sbbImmRm s w rm imm | cmpImmRm s w rm imm
  | andImmRm s w rm imm | orImmRm s w rm imm | xorImmRm s w rm imm => exact ⟨_, rfl, .MRIsw _ s w rm imm⟩
  | movImmRm w rm imm | testImmRm w rm imm => exact ⟨_, rfl, .MRIw _ w rm imm⟩
  | incRm w rm | decRm w rm | neg w rm | mul w rm | imul w rm | div w rm | idiv w rm | not w rm =>
    exact ⟨_, rfl, .Mw _ w rm⟩
  | pushRm rm | popRm rm | callInd rm | callFarInd rm | jmpInd rm | jmpFarInd rm => exact ⟨_, rfl, .M _ rm⟩
  | shl v w rm | shr v w rm | sar v w rm | rol v w rm | ror v w rm | rcl v w rm | rcr v w rm =>
    exact ⟨_, rfl, .MV _ v w rm⟩
  | movRmSr sr rm | movSrRm sr rm => exact ⟨_, rfl, .MS _ sr rm⟩
  | callNear | callFar | jmpNear | jmpShort | jmpFar | esc x | segment sr | aamBase imm | aadBase imm => cases h

/-- What the model's own functions say of an instruction that is no refused form. -/
structure Instr.HasEncoding (i : Instr) (wf : Bool) (bytes : List Byte) (format : Option Format) : Prop where
  wellFormed : i.WellFormed = wf
  encode : encode i = bytes
  decodes : i.isRefused = false
  format : i.type.map InstrType.format = format

/-- The row's layout is what the model says of each of its instructions. -/
def Row.Sound (row : Row) : Prop :=
  ∀ i wf bytes, row.Lays i wf bytes → i.HasEncoding wf bytes row.kind.format

/-- The layout of every row that decodes agrees with the model. -/
theorem sound_of_mem : ∀ row ∈ decodableRows, row.Sound := by
  rw [← List.forall_iff_forall_mem]
  simp only [decodableRows, rowsDataTransfer, rowsArithmetic, rowsLogic, rowsStringOps, rowsControlTransfer,
    rowsProcessorControl, List.forall_append]
  and_intros <;> (rintro i wf bytes ⟨⟩; exact ⟨rfl, rfl, rfl, rfl⟩)

/-! ## A format's builder is the inverse of its layout -/

theorem sreg_code_of_name (f : BitVec 2) : (sregName f).code = f := by
  revert f; decide

/-- Two second bytes that agree in their middle bits have one reg field. -/
theorem b2Reg_of_match {c lo : Byte} (h : c &&& 0x38 = lo) : b2Reg lo = b2Reg c := by
  subst h; revert c; decide

/-- A second byte with b2[5] clear has a segment register in its reg field. -/
theorem b2Reg_of_sreg {c : Byte} (h : c &&& 0x20 = 0) : (b2Sr c).setWidth 3 = b2Reg c := by
  revert c; decide

/-- The bytes are an encoding of `i` in the layout, followed by `r`. -/
def RowKind.Consumes (base lo : Byte) (kind : RowKind) (i : Instr) (bs r : List Byte) : Prop :=
  ∃ wf bytes, kind.Lays base lo i wf bytes ∧ wf = true ∧ bs = bytes ++ r

/-- What a row builds from matching bytes is laid out by them, with encodable fields. -/
theorem RowKind.consumes_of_build {kind : RowKind} {base lo b1 : Byte} {bs r : List Byte} {i : Instr}
    (hf : kind.format.isSome = true) (hlo : kind.mask2 = 0x20 → lo = 0) (h1 : b1 &&& kind.mask1 = base)
    (h2 : kind.mask2 ≠ 0 → ∃ c, bs.head? = some c ∧ c &&& kind.mask2 = lo) (h : kind.build b1 bs = some (i, r)) :
    kind.Consumes base lo i (b1 :: bs) r := by
  have hreg : ∀ {c}, kind.mask2 = 0x38 → bs.head? = some c → b2Reg lo = b2Reg c := fun hm hc => by
    obtain ⟨c', hc', hl⟩ := h2 (by rw [hm]; decide)
    rw [hc, Option.some.injEq] at hc'
    exact b2Reg_of_match (by rw [hc', ← hm, hl])
  cases kind with
  | O i =>
    cases h
    exact ⟨_, _, .O i, rfl, by rw [← eq_of_match_all h1]; rfl⟩
  | Ow mk =>
    cases h
    exact ⟨_, _, .Ow mk (bitW b1), rfl, by rw [← eq_opW_of_match h1]; rfl⟩
  | AA i =>
    obtain ⟨b, r', rfl, hk⟩ := withByte_eq_some h
    cases hk
    obtain ⟨c, hc, hl⟩ := h2 (show (0xFF : Byte) ≠ 0 by decide)
    cases hc
    exact ⟨_, _, .AA i, rfl, by rw [← eq_of_match_all h1, ← eq_of_match_all hl]; rfl⟩
  | R mk =>
    cases h
    exact ⟨_, _, .R mk _, wfReg_regName _ _, by rw [regCode_regName, ← eq_reg_of_match h1]; rfl⟩
  | S mk =>
    cases h
    exact ⟨_, _, .S mk _, rfl, by rw [sreg_code_of_name, ← eq_sr_of_match h1]; rfl⟩
  | J8 mk =>
    obtain ⟨b, r', rfl, hk⟩ := withByte_eq_some h
    cases hk
    exact ⟨_, _, .J8 mk b, rfl, by rw [← eq_of_match_all h1]; rfl⟩
  | I8 mk =>
    obtain ⟨b, r', rfl, hk⟩ := withByte_eq_some h
    cases hk
    exact ⟨_, _, .I8 mk b, rfl, by rw [← eq_of_match_all h1]; rfl⟩
  | I16 mk =>
    obtain ⟨v, r', -, rfl, hk⟩ := withImm_eq_some h
    cases hk
    exact ⟨_, _, .I16 mk v, rfl, by rw [← eq_of_match_all h1]; rfl⟩
  | RI mk =>
    obtain ⟨v, r', hv, rfl, hk⟩ := withImm_eq_some h
    cases hk
    exact ⟨_, _, .RI mk (b1.getLsbD 3) (regName (b1Reg b1) (b1.getLsbD 3)) v, by rw [wfReg_regName, hv]; rfl,
      by rw [regCode_regName, ← eq_wreg_of_match h1]; rfl⟩
  | Pfix mk =>
    obtain ⟨b, r', rfl, hk⟩ := withByte_eq_some h
    cases hk
    exact ⟨_, _, .Pfix mk (bitW b1) b, rfl, by rw [← eq_opW_of_match h1]; rfl⟩
  | Pvar mk =>
    cases h
    exact ⟨_, _, .Pvar mk (bitW b1), rfl, by rw [← eq_opW_of_match h1]; rfl⟩
  | AM mk =>
    obtain ⟨v, r', -, rfl, hk⟩ := withImm_eq_some h
    cases hk
    exact ⟨_, _, .AM mk (bitW b1) v, rfl, by rw [← eq_opW_of_match h1]; rfl⟩
  | AI mk =>
    obtain ⟨v, r', hv, rfl, hk⟩ := withImm_eq_some h
    cases hk
    exact ⟨_, _, .AI mk (bitW b1) v, hv, by rw [← eq_opW_of_match h1]; rfl⟩
  | MRdw mk =>
    obtain ⟨c, rm, r', hrm, -, hbs, hk⟩ := withRM_eq_some h
    cases hk
    exact ⟨_, _, .MRdw mk (bitD b1) (bitW b1) (regName (b2Reg c) (bitW b1)) rm, by rw [wfReg_regName, hrm]; rfl,
      by rw [regCode_regName, ← eq_opDW_of_match h1, hbs]; rfl⟩
  | MRw mk =>
    obtain ⟨c, rm, r', hrm, -, hbs, hk⟩ := withRM_eq_some h
    cases hk
    exact ⟨_, _, .MRw mk (bitW b1) (regName (b2Reg c) (bitW b1)) rm, by rw [wfReg_regName, hrm]; rfl,
      by rw [regCode_regName, ← eq_opW_of_match h1, hbs]; rfl⟩
  | MR mk =>
    obtain ⟨c, rm, r', hrm, -, hbs, hk⟩ := withRM_eq_some h
    cases hk
    exact ⟨_, _, .MR mk (regName (b2Reg c) true) rm, by rw [wfReg_regName, hrm]; rfl,
      by rw [regCode_regName, ← eq_of_match_all h1, hbs]; rfl⟩
  | MRIsw mk =>
    obtain ⟨c, rm, r', hrm, hc, hbs, hk⟩ := withRM_eq_some h
    obtain ⟨v, r'', hv, rfl, hk'⟩ := withImm_eq_some hk
    cases hk'
    exact ⟨_, _, .MRIsw mk (bitD b1) (bitW b1) rm v, by rw [hrm, hv]; rfl,
      by rw [hreg rfl hc, ← eq_opDW_of_match h1, hbs, List.cons_append, List.append_assoc]⟩
  | MRIw mk =>
    obtain ⟨c, rm, r', hrm, hc, hbs, hk⟩ := withRM_eq_some h
    obtain ⟨v, r'', hv, rfl, hk'⟩ := withImm_eq_some hk
    cases hk'
    exact ⟨_, _, .MRIw mk (bitW b1) rm v, by rw [hrm, hv]; rfl,
      by rw [hreg rfl hc, ← eq_opW_of_match h1, hbs, List.cons_append, List.append_assoc]⟩
  | Mw mk =>
    obtain ⟨c, rm, r', hrm, hc, hbs, hk⟩ := withRM_eq_some h
    cases hk
    exact ⟨_, _, .Mw mk (bitW b1) rm, hrm, by rw [hreg rfl hc, ← eq_opW_of_match h1, hbs]; rfl⟩
  | M mk =>
    obtain ⟨c, rm, r', hrm, hc, hbs, hk⟩ := withRM_eq_some h
    cases hk
    exact ⟨_, _, .M mk rm, hrm, by rw [hreg rfl hc, ← eq_of_match_all h1, hbs]; rfl⟩
  | MV mk =>
    obtain ⟨c, rm, r', hrm, hc, hbs, hk⟩ := withRM_eq_some h
    cases hk
    exact ⟨_, _, .MV mk (bitD b1) (bitW b1) rm, hrm, by rw [hreg rfl hc, ← eq_opDW_of_match h1, hbs]; rfl⟩
  | MS mk =>
    obtain ⟨c, rm, r', hrm, hc, hbs, hk⟩ := withRM_eq_some h
    cases hk
    obtain ⟨c', hc', hl⟩ := h2 (show (0x20 : Byte) ≠ 0 by decide)
    rw [hc, Option.some.injEq] at hc'
    rw [← hc', hlo rfl] at hl
    exact ⟨_, _, .MS mk (sregName (b2Sr c)) rm, hrm,
      by rw [sreg_code_of_name, b2Reg_of_sreg hl, ← eq_of_match_all h1, hbs]; rfl⟩
  | x | xEsc | xSeg | xBase => cases hf

/-- The reg field of a byte, in its place. -/
theorem and_regField (c : Byte) : c &&& 0x38 = modRegRm 0 (b2Reg c) 0 := by
  revert c; decide

theorem match_of_b2Reg {c lo : Byte} (hlo : lo &&& 0x38 = lo) (h : b2Reg c = b2Reg lo) : c &&& 0x38 = lo := by
  rw [and_regField, h, ← and_regField, hlo]

/-- A second byte with a segment register in its reg field has b2[5] clear, and the register is its field sr. -/
theorem sreg_of_b2Reg {c : Byte} {f : BitVec 2} (h : b2Reg c = f.setWidth 3) : c &&& 0x20 = 0 ∧ b2Sr c = f := by
  revert c f; decide

/-- The bytes of a layout with encodable fields match, and the format builds the instruction from them. -/
theorem RowKind.build_of_lays {kind : RowKind} {base lo : Byte} {i : Instr} {wf : Bool} {bytes : List Byte}
    (h : kind.Lays base lo i wf bytes) (hwf : wf = true) (hbase : base &&& kind.mask1 = base)
    (hlo : lo &&& kind.mask2 = lo) (hms : kind.mask2 = 0x20 → lo = 0) (r : List Byte) :
    ∃ b1 bs, bytes ++ r = b1 :: bs ∧ b1 &&& kind.mask1 = base ∧
      (kind.mask2 ≠ 0 → ∃ c, bs.head? = some c ∧ c &&& kind.mask2 = lo) ∧ kind.build b1 bs = some (i, r) := by
  have noSecond {p : Prop} : (0 : Byte) ≠ 0 → p := fun h => absurd rfl h
  cases h with
  | O => exact ⟨_, _, rfl, hbase, noSecond, rfl⟩
  | Ow mk w =>
    obtain ⟨h1, hw⟩ := match_opW hbase w
    exact ⟨_, _, rfl, h1, noSecond, by simp only [build, hw]; rfl⟩
  | AA => exact ⟨_, _, rfl, hbase, fun _ => ⟨_, rfl, hlo⟩, rfl⟩
  | R mk reg =>
    obtain ⟨h1, hr⟩ := match_reg hbase (regCode reg)
    exact ⟨_, _, rfl, h1, noSecond, by simp only [build, hr, regName_regCode _ _ hwf]; rfl⟩
  | S mk sr =>
    obtain ⟨h1, hs⟩ := match_sr hbase sr.code
    exact ⟨_, _, rfl, h1, noSecond, by simp only [build, hs, sregName_code]; rfl⟩
  | J8 | I8 => exact ⟨_, _, rfl, hbase, noSecond, rfl⟩
  | I16 mk imm =>
    exact ⟨_, _, List.cons_append, hbase, noSecond, by rw [build]; exact withImm_encImm true imm r rfl _⟩
  | RI mk w reg imm =>
    obtain ⟨hr, hi⟩ := Bool.and_eq_true_iff.mp hwf
    obtain ⟨h1, hw, hreg⟩ := match_wreg hbase w (regCode reg)
    exact ⟨_, _, rfl, h1, noSecond, by
      simp only [build, hw, hreg, regName_regCode _ _ hr]; exact withImm_encImm w imm r hi _⟩
  | Pfix mk w =>
    obtain ⟨h1, hw⟩ := match_opW hbase w
    exact ⟨_, _, rfl, h1, noSecond, by simp only [build, hw]; rfl⟩
  | Pvar mk w =>
    obtain ⟨h1, hw⟩ := match_opW hbase w
    exact ⟨_, _, rfl, h1, noSecond, by simp only [build, hw]; rfl⟩
  | AM mk w addr =>
    obtain ⟨h1, hw⟩ := match_opW hbase w
    exact ⟨_, _, rfl, h1, noSecond, by simp only [build, hw]; exact withImm_encImm true addr r rfl _⟩
  | AI mk w imm =>
    obtain ⟨h1, hw⟩ := match_opW hbase w
    exact ⟨_, _, rfl, h1, noSecond, by simp only [build, hw]; exact withImm_encImm w imm r hwf _⟩
  | MRdw mk d w reg rm =>
    obtain ⟨hr, hrm⟩ := Bool.and_eq_true_iff.mp hwf
    obtain ⟨h1, hd, hw⟩ := match_opDW hbase d w
    refine ⟨_, _, List.cons_append, h1, noSecond, ?_⟩
    obtain ⟨c, hc, -, hk⟩ := withRM_encRM w (regCode reg) rm r hrm _
    simp only [build, hd, hw]
    exact hk.trans (by rw [hc, regName_regCode _ _ hr])
  | MRw mk w reg rm =>
    obtain ⟨hr, hrm⟩ := Bool.and_eq_true_iff.mp hwf
    obtain ⟨h1, hw⟩ := match_opW hbase w
    refine ⟨_, _, List.cons_append, h1, noSecond, ?_⟩
    obtain ⟨c, hc, -, hk⟩ := withRM_encRM w (regCode reg) rm r hrm _
    simp only [build, hw]
    exact hk.trans (by rw [hc, regName_regCode _ _ hr])
  | MR mk reg rm =>
    obtain ⟨hr, hrm⟩ := Bool.and_eq_true_iff.mp hwf
    obtain ⟨c, hc, -, hk⟩ := withRM_encRM true (regCode reg) rm r hrm _
    exact ⟨_, _, rfl, hbase, noSecond, hk.trans (by rw [hc, regName_regCode _ _ hr])⟩
  | MRIsw mk s w rm imm =>
    obtain ⟨hrm, hi⟩ := Bool.and_eq_true_iff.mp hwf
    obtain ⟨h1, hd, hw⟩ := match_opDW hbase s w
    obtain ⟨c, hc, hh, hk⟩ := withRM_encRM w (b2Reg lo) rm (encImm (w && !s) imm ++ r) hrm _
    rw [← List.append_assoc] at hh hk
    refine ⟨_, _, rfl, h1, fun _ => ⟨c, hh, match_of_b2Reg hlo hc⟩, ?_⟩
    simp only [build, hd, hw]
    exact hk.trans (withImm_encImm _ imm r hi _)
  | MRIw mk w rm imm =>
    obtain ⟨hrm, hi⟩ := Bool.and_eq_true_iff.mp hwf
    obtain ⟨h1, hw⟩ := match_opW hbase w
    obtain ⟨c, hc, hh, hk⟩ := withRM_encRM w (b2Reg lo) rm (encImm w imm ++ r) hrm _
    rw [← List.append_assoc] at hh hk
    refine ⟨_, _, rfl, h1, fun _ => ⟨c, hh, match_of_b2Reg hlo hc⟩, ?_⟩
    simp only [build, hw]
    exact hk.trans (withImm_encImm w imm r hi _)
  | Mw mk w rm =>
    obtain ⟨h1, hw⟩ := match_opW hbase w
    obtain ⟨c, hc, hh, hk⟩ := withRM_encRM w (b2Reg lo) rm r hwf _
    exact ⟨_, _, rfl, h1, fun _ => ⟨c, hh, match_of_b2Reg hlo hc⟩, by simp only [build, hw]; exact hk⟩
  | M mk rm =>
    obtain ⟨c, hc, hh, hk⟩ := withRM_encRM true (b2Reg lo) rm r hwf _
    exact ⟨_, _, rfl, hbase, fun _ => ⟨c, hh, match_of_b2Reg hlo hc⟩, hk⟩
  | MV mk v w rm =>
    obtain ⟨h1, hd, hw⟩ := match_opDW hbase v w
    obtain ⟨c, hc, hh, hk⟩ := withRM_encRM w (b2Reg lo) rm r hwf _
    exact ⟨_, _, rfl, h1, fun _ => ⟨c, hh, match_of_b2Reg hlo hc⟩, by simp only [build, hd, hw]; exact hk⟩
  | MS mk sr rm =>
    obtain ⟨c, hc, hh, hk⟩ := withRM_encRM true (sr.code.setWidth 3) rm r hwf _
    obtain ⟨h0, hs⟩ := sreg_of_b2Reg hc
    exact ⟨_, _, rfl, hbase, fun _ => ⟨c, hh, h0.trans (hms rfl).symm⟩, hk.trans (by rw [hs, sregName_code])⟩

/-! ## Decoding and encoding -/

/-- The bytes of a well-formed instruction match its row, which builds the instruction from them. -/
theorem Row.build_of_lays {row : Row} (hr : row ∈ decodableRows) {i : Instr} {bytes : List Byte}
    (h : row.Lays i true bytes) (r : List Byte) :
    ∃ b1 bs, bytes ++ r = b1 :: bs ∧ row.Matches b1 bs.head? ∧ row.kind.build b1 bs = some (i, r) := by
  have hc := canonical_of_mem row (mem_opcodeTable.mpr (.inl hr))
  obtain ⟨b1, bs, hbs, h1, h2, hb⟩ := RowKind.build_of_lays h rfl hc.first hc.second hc.topBit r
  exact ⟨b1, bs, hbs, ⟨h1, h2⟩, hb⟩

/-- What a row builds from matching bytes is well formed, no refused form, and encodes to the bytes consumed. -/
theorem Row.encoding_of_build {row : Row} (hr : row ∈ decodableRows) {b1 : Byte} {bs r : List Byte} {i : Instr}
    (hm : row.Matches b1 bs.head?) (h : row.kind.build b1 bs = some (i, r)) :
    i.WellFormed = true ∧ i.isRefused = false ∧ b1 :: bs = encode i ++ r := by
  have hc := canonical_of_mem row (mem_opcodeTable.mpr (.inl hr))
  obtain ⟨wf, bytes, hl, rfl, hbs⟩ :=
    RowKind.consumes_of_build (format_isSome_of_mem row hr) hc.topBit hm.first hm.second h
  have he := sound_of_mem row hr i true bytes hl
  exact ⟨he.wellFormed, he.decodes, by rw [he.encode, hbs]⟩

/-- A row of a well-formed instruction that is no refused form. -/
theorem exists_row {i : Instr} (hw : i.WellFormed = true) (hi : i.isRefused = false) :
    ∃ row ∈ decodableRows, row.Lays i true (encode i) := by
  obtain ⟨row, hr, hl⟩ := lays_of_rowIndex hi
  rw [hw] at hl
  exact ⟨row, List.mem_of_getElem? hr, hl⟩

/-- A refused row builds a refused form. -/
theorem isRefused_of_build : ∀ row ∈ rowsRefused, ∀ (b1 : Byte) (bs : List Byte) (x : Instr × List Byte),
    row.kind.build b1 bs = some x → x.1.isRefused = true := by
  rw [← List.forall_iff_forall_mem]
  refine ⟨?_, ?_, ?_, ?_, ?_, ?_, ?_, ?_, ?_⟩ <;> intro b1 bs x h
  case refine_8 | refine_9 =>
    obtain ⟨b, r, -, h⟩ := withByte_eq_some h
    cases h
    rfl
  all_goals cases h; rfl

/-- Settles O2: the encoding's bytes match the instruction's row alone, and the row's builder inverts its layout. -/
theorem decodeOfEncode : Obligations.DecodeOfEncode := by
  intro i rest hw hi
  obtain ⟨row, hr, hl⟩ := exists_row hw hi
  obtain ⟨b1, bs, hbs, hm, hb⟩ := row.build_of_lays hr hl rest
  rw [hbs]
  exact decode_of_row (classify_of_matches hr hm) hb hi

/-- A decoding is what the classifier's row builds, and no refused form. -/
theorem row_of_decode {bs rest : List Byte} {i : Instr} (h : decode bs = .ok (i, rest)) :
    ∃ b1 t row, bs = b1 :: t ∧ classify b1 t.head? = .ok row ∧ row.kind.build b1 t = some (i, rest) ∧
      i.isRefused = false := by
  cases bs with
  | nil => cases h
  | cons b1 t =>
    unfold decode decodeRow at h
    simp only at h
    cases hc : classify b1 t.head? with
    | error e => rw [hc] at h; cases h
    | ok row =>
      rw [hc] at h
      simp only at h
      cases hb : row.kind.build b1 t with
      | none => rw [hb] at h; cases h
      | some x =>
        rw [hb] at h
        simp only at h
        split at h
        · cases h
        · rename_i hi
          cases h
          exact ⟨b1, t, row, rfl, hc, hb, by simpa using hi⟩

/-- Settles O3: the row that decoded is no refused form's, and its layout is the encoding. -/
theorem encodeOfDecode : Obligations.EncodeOfDecode := by
  intro bs rest i h
  obtain ⟨b1, t, row, rfl, hc, hb, hi⟩ := row_of_decode h
  obtain ⟨hr, hm⟩ := matches_of_classify hc
  have hd : row ∈ decodableRows := (mem_opcodeTable.mp hr).resolve_right fun hx => by
    have hx := isRefused_of_build row hx b1 t _ hb
    rw [hi] at hx
    cases hx
  exact row.encoding_of_build hd hm hb

/-! ## Bytes that do not decode -/

theorem decode_of_classify_error {b1 : Byte} {bs : List Byte} {reason : DecodeReason}
    (h : classify b1 bs.head? = .error reason) :
    decode (b1 :: bs) = .error (.failure reason b1 (inspectedB2 b1 bs)) := by
  simp only [decode, decodeRow, h]

/-- A row that cannot be built from the bytes left is truncated; b2 is reported where the classifier or the length rule
read it (60_exceptions.md R511). -/
theorem decode_of_build_none {b1 : Byte} {bs : List Byte} {row : Row} (hc : classify b1 bs.head? = .ok row)
    (hb : row.kind.build b1 bs = none) :
    decode (b1 :: bs) =
      .error (.failure .Truncated b1 (if row.kind.hasModRM then bs.head? else inspectedB2 b1 bs)) := by
  simp only [decode, decodeRow, hc, hb]

theorem inspectedB2_of_needsB2 {b1 : Byte} (h : needsB2 b1 = true) (bs : List Byte) :
    inspectedB2 b1 bs = bs.head? := if_pos h

theorem inspectedB2_of_plain {b1 : Byte} (h : needsB2 b1 = false) (bs : List Byte) : inspectedB2 b1 bs = none :=
  if_neg (by simp [h])

/-! ### Refused forms -/

/-- The first bytes of the refused forms that are told by b1 alone (30_encoding.md R84). -/
def refusedBytes : List Byte :=
  [0xE8, 0x9A, 0xE9, 0xEB, 0xEA, 0x26, 0x2E, 0x36, 0x3E, 0xD8, 0xD9, 0xDA, 0xDB, 0xDC, 0xDD, 0xDE, 0xDF]

theorem mem_refusedBytes {b1 : Byte}
    (h : b1 ∈ ([0xE8, 0x9A, 0xE9, 0xEB, 0xEA, 0x26, 0x2E, 0x36, 0x3E] : List Byte) ∨ (0xD8 ≤ b1 ∧ b1 ≤ 0xDF)) :
    b1 ∈ refusedBytes := by
  revert b1; decide

/-- No row that decodes has one of these first bytes, and a refused form has. -/
theorem refusedBytes_rows : ∀ b1 ∈ refusedBytes, needsB2 b1 = false ∧
    (decodableRows.all fun row => b1 &&& row.kind.mask1 != row.byte1) = true ∧
    (rowsRefused.any fun row => b1 &&& row.kind.mask1 == row.byte1) = true :=
  forall_mem_of_all (by decide)

/-- Of the rows with the first byte 0xD4 or 0xD5, those that decode want 0x0A of b2, and a refused form nothing. -/
theorem baseBytes_rows : ∀ b1 ∈ ([0xD4, 0xD5] : List Byte), needsB2 b1 = true ∧
    (decodableRows.all fun row => b1 &&& row.kind.mask1 != row.byte1 || row.kind.mask2 == 0xFF && row.byte2 == 0x0A)
      = true ∧
    (rowsRefused.any fun row => b1 &&& row.kind.mask1 == row.byte1) = true :=
  forall_mem_of_all (by decide)

/-- A refused form fixes no bit of b2. -/
theorem refused_mask2 : ∀ row ∈ rowsRefused, row.kind.mask2 = 0 := forall_mem_of_all (by decide)

theorem exists_refused_match {b1 : Byte} (b2 : Option Byte)
    (h : (rowsRefused.any fun row => b1 &&& row.kind.mask1 == row.byte1) = true) :
    ∃ row ∈ rowsRefused, row.Matches b1 b2 := by
  obtain ⟨row, hr, h1⟩ := List.any_eq_true.mp h
  exact ⟨row, hr, beq_iff_eq.mp h1, fun h2 => absurd (refused_mask2 row hr) h2⟩

/-- A refused form that matches is built from the bytes that the classifier inspects. -/
theorem build_isSome_of_refused : ∀ row ∈ rowsRefused, ∀ (b1 : Byte) (bs : List Byte), row.Matches b1 bs.head? →
    (needsB2 b1 = true → bs.head?.isSome = true) → (row.kind.build b1 bs).isSome = true := by
  rw [← List.forall_iff_forall_mem]
  refine ⟨?_, ?_, ?_, ?_, ?_, ?_, ?_, ?_, ?_⟩ <;> intro b1 bs hm hp
  case refine_8 | refine_9 =>
    obtain rfl := eq_of_match_all hm.first
    cases bs with
    | nil => exact absurd (hp (by decide)) (by simp)
    | cons b r => rfl
  all_goals rfl

/-- Where a refused form matches and no row that decodes does, the decoder answers NotDispatched. -/
theorem decode_notDispatched {b1 : Byte} {bs : List Byte} (hp : needsB2 b1 = true → bs.head?.isSome = true)
    (hr : ∃ row ∈ rowsRefused, row.Matches b1 bs.head?) (hd : ∀ row ∈ decodableRows, ¬ row.Matches b1 bs.head?) :
    decode (b1 :: bs) = .error (.failure .NotDispatched b1 (inspectedB2 b1 bs)) := by
  obtain ⟨row, hrow, hm, hc⟩ := classify_refused hp hr hd
  obtain ⟨x, hb⟩ := Option.isSome_iff_exists.mp (build_isSome_of_refused row hrow b1 bs hm hp)
  have hx := isRefused_of_build row hrow b1 bs x hb
  simp only [decode, decodeRow, hc, hb, hx, if_true]

theorem decode_refusedByte {b1 : Byte} (h : b1 ∈ refusedBytes) (bs : List Byte) :
    decode (b1 :: bs) = .error (.failure .NotDispatched b1 none) := by
  obtain ⟨hn, hd, hr⟩ := refusedBytes_rows b1 h
  rw [decode_notDispatched (by simp [hn]) (exists_refused_match _ hr), inspectedB2_of_plain hn]
  intro row hrow hm
  exact bne_iff_ne.mp (List.all_eq_true.mp hd row hrow) hm.first

theorem decode_base {b1 c : Byte} (h : b1 = 0xD4 ∨ b1 = 0xD5) (hc : c ≠ 0x0A) (bs : List Byte) :
    decode (b1 :: c :: bs) = .error (.failure .NotDispatched b1 (some c)) := by
  obtain ⟨hn, hd, hr⟩ := baseBytes_rows b1 (by simpa using h)
  rw [decode_notDispatched (fun _ => rfl) (exists_refused_match _ hr), inspectedB2_of_needsB2 hn]
  · rfl
  · intro row hrow hm
    have h2 := List.all_eq_true.mp hd row hrow
    simp only [hm.first, bne_self_eq_false, Bool.false_or, Bool.and_eq_true, beq_iff_eq] at h2
    obtain ⟨hmask, hbyte⟩ := h2
    obtain ⟨c', hc', hk⟩ := hm.second (by rw [hmask]; decide)
    cases hc'
    rw [hmask, hbyte] at hk
    exact hc (eq_of_match_all hk)

/-! ### Illegal encodings -/

/-- The first bytes that no row has (30_encoding.md R85). -/
def illegalBytes : List Byte :=
  [0x60, 0x61, 0x62, 0x63, 0x64, 0x65, 0x66, 0x67, 0x68, 0x69, 0x6A, 0x6B, 0x6C, 0x6D, 0x6E, 0x6F,
    0xC0, 0xC1, 0xC8, 0xC9, 0xD6, 0xF1]

theorem mem_illegalBytes {b1 : Byte}
    (h : (0x60 ≤ b1 ∧ b1 ≤ 0x6F) ∨ b1 ∈ ([0xC0, 0xC1, 0xC8, 0xC9, 0xD6, 0xF1] : List Byte)) : b1 ∈ illegalBytes := by
  revert b1; decide

theorem illegalBytes_rows : ∀ b1 ∈ illegalBytes, needsB2 b1 = false ∧
    (opcodeTable.all fun row => b1 &&& row.kind.mask1 != row.byte1) = true :=
  forall_mem_of_all (by decide)

theorem decode_illegalByte {b1 : Byte} (h : b1 ∈ illegalBytes) (bs : List Byte) :
    decode (b1 :: bs) = .error (.failure .Illegal b1 none) := by
  obtain ⟨hn, hr⟩ := illegalBytes_rows b1 h
  rw [decode_of_classify_error, inspectedB2_of_plain hn]
  exact classify_of_no_match (by simp [hn]) fun row hrow hm =>
    bne_iff_ne.mp (List.all_eq_true.mp hr row hrow) hm.first

/-- The group first bytes with the reg fields that no row has (30_encoding.md R85). -/
abbrev IllegalGroup (b1 : Byte) (g : BitVec 3) : Prop :=
  ((b1 = 0x8C ∨ b1 = 0x8E) ∧ g.getLsbD 2 = true) ∨ ((b1 = 0x8F ∨ b1 = 0xC6 ∨ b1 = 0xC7) ∧ g ≠ 0) ∨
  ((0xD0 ≤ b1 ∧ b1 ≤ 0xD3) ∧ g = 6) ∨ ((b1 = 0xF6 ∨ b1 = 0xF7) ∧ g = 1) ∨ (b1 = 0xFE ∧ 2 ≤ g) ∨ (b1 = 0xFF ∧ g = 7)

theorem inspected_of_illegalGroup {b1 : Byte} {g : BitVec 3} (h : IllegalGroup b1 g) : b1 ∈ inspectsB2 := by
  have range : ∀ b1 : Byte, 0xD0 ≤ b1 ∧ b1 ≤ 0xD3 → b1 ∈ inspectsB2 := by decide
  obtain ⟨rfl | rfl, -⟩ | ⟨rfl | rfl | rfl, -⟩ | ⟨hr, -⟩ | ⟨rfl | rfl, -⟩ | ⟨rfl, -⟩ | ⟨rfl, -⟩ := h
  case inr.inr.inl => exact range b1 hr
  all_goals decide

/-- The rows with a group's first byte want another reg field than an illegal one. -/
theorem illegalGroup_rows : ∀ b1 ∈ inspectsB2, ∀ row ∈ opcodeTable, b1 &&& row.kind.mask1 = row.byte1 →
    ∀ g : BitVec 3, IllegalGroup b1 g →
      row.kind.mask2 ≠ 0 ∧ 0x38 &&& row.kind.mask2 = row.kind.mask2 ∧ modRegRm 0 g 0 &&& row.kind.mask2 ≠ row.byte2 := by
  intro b1 hb
  apply forall_mem_of_all
  revert b1
  exact forall_mem_of_all (by decide)

theorem decode_illegalGroup {b1 c : Byte} (h : IllegalGroup b1 (b2Reg c)) (bs : List Byte) :
    decode (b1 :: c :: bs) = .error (.failure .Illegal b1 (some c)) := by
  have hi := inspected_of_illegalGroup h
  rw [decode_of_classify_error, inspectedB2_of_needsB2 (needsB2_iff.mpr hi)]
  · rfl
  · refine classify_of_no_match (fun _ => rfl) fun row hrow hm => ?_
    obtain ⟨h0, hmask, hne⟩ := illegalGroup_rows b1 hi row hrow hm.first _ h
    obtain ⟨c', hc', hk⟩ := hm.second h0
    cases hc'
    apply hne
    rw [← and_regField, BitVec.and_assoc, hmask, hk]

/-! ### Truncated encodings -/

/-- An encoding is as long as its parts together (30_encoding.md R94). -/
theorem encode_length (i : Instr) : (encode i).length = i.size := by
  cases i <;> simp +arith only [encode, Instr.size, List.length_cons, List.length_nil, List.length_append, encRM_length,
    encImm_length, immBytes, if_true]

/-- A stream that ends where the classifier needs b2. -/
theorem decode_ends_at_b1 {b1 : Byte} (h : needsB2 b1 = true) :
    decode [b1] = .error (.failure .Truncated b1 none) := by
  rw [decode_of_classify_error (classify_eq_truncated h), inspectedB2_of_needsB2 h]
  rfl

/-- No instruction's encoding begins with another's (30_encoding.md R91): a row builds nothing from a part of the bytes
of an instruction of its own. -/
theorem build_eq_none_of_cut {row : Row} (hr : row ∈ decodableRows) {b1 : Byte} {t more : List Byte} {i : Instr}
    (hw : i.WellFormed = true) (hi : i.isRefused = false) (he : encode i = b1 :: (t ++ more)) (hmore : more ≠ [])
    (hm : row.Matches b1 t.head?) : row.kind.build b1 t = none := by
  refine Option.eq_none_iff_forall_ne_some.mpr ?_
  rintro ⟨j, r⟩ hb
  obtain ⟨hjw, hj, hbs⟩ := row.encoding_of_build hr hm hb
  have hdi := decodeOfEncode i [] hw hi
  have hdj := decodeOfEncode j (r ++ more) hjw hj
  rw [← List.append_assoc, ← hbs, List.cons_append, ← he, ← List.append_nil (encode i), hdi] at hdj
  simp only [Except.ok.injEq, Prod.mk.injEq] at hdj
  exact hmore (List.append_eq_nil_iff.mp hdj.2.symm).2

/-- A stream that ends after b1 but before the last byte of a well-formed instruction is truncated. -/
theorem decode_of_cut {i : Instr} (hw : i.WellFormed = true) (hi : i.isRefused = false) {b1 : Byte}
    {t more : List Byte} (he : encode i = b1 :: (t ++ more)) (hmore : more ≠ []) :
    ∃ row ∈ decodableRows, row.Lays i true (encode i) ∧ b1 &&& row.kind.mask1 = row.byte1 ∧
      decode (b1 :: t) =
        .error (.failure .Truncated b1 (if row.kind.hasModRM || needsB2 b1 then t.head? else none)) := by
  obtain ⟨row, hr, hl⟩ := exists_row hw hi
  obtain ⟨b, bs, hbs, hm, -⟩ := row.build_of_lays hr hl []
  rw [List.append_nil, he] at hbs
  cases hbs
  refine ⟨row, hr, hl, hm.first, ?_⟩
  have hneeds : row.kind.mask2 ≠ 0 → needsB2 b1 = true := fun h2 =>
    needsB2_of_mask2 (mem_opcodeTable.mpr (.inl hr)) h2 hm.first
  cases t with
  | nil =>
    cases hn : needsB2 b1 with
    | true => rw [decode_ends_at_b1 hn]; simp
    | false =>
      have hmt : row.Matches b1 none := ⟨hm.first, fun h2 => by rw [hneeds h2] at hn; cases hn⟩
      rw [decode_of_build_none (classify_of_matches hr hmt) (build_eq_none_of_cut hr hw hi he hmore hmt)]
      simp [inspectedB2]
  | cons c t =>
    have hmt : row.Matches b1 (some c) := hm
    rw [decode_of_build_none (classify_of_matches hr hmt) (build_eq_none_of_cut hr hw hi he hmore hmt)]
    cases row.kind.hasModRM <;> cases hn : needsB2 b1 <;> simp [inspectedB2, hn]

end Sys2Proof

namespace Sys2Proof.Machine

/-- A decode failure ends a running pass, and changes its status alone (40_decoder.md R140). -/
theorem Decoder.turn_of_failure {stream : List Byte} {d : Decoder} {reason : DecodeReason} {b1 : Byte}
    {b2 : Option Byte} (hs : d.status = .Running) (h : decode (stream.drop d.cursor) = .error (.failure reason b1 b2)) :
    d.turn stream = { d with status := .Failed ⟨reason, d.cursor, b1, b2⟩ } := by
  simp only [Decoder.turn, hs, h]

/-- Settles O4: the first byte, or b1 and b2, match a refused form and no row that decodes. -/
theorem refusedEncodingsAreNotDispatched : Obligations.RefusedEncodingsAreNotDispatched := by
  intro stream rest d b1 hs hd
  refine ⟨fun h => d.turn_of_failure hs ?_, fun b2 more h hr hb => d.turn_of_failure hs ?_⟩
  · rw [hd, decode_refusedByte (mem_refusedBytes h)]
  · rw [hd, hr, decode_base h hb]

/-- Settles O5: no row of the table matches the first byte, or the first byte with the reg field of b2. -/
theorem illegalEncodingsAreIllegal : Obligations.IllegalEncodingsAreIllegal := by
  intro stream rest d b1 hs hd
  refine ⟨fun h => d.turn_of_failure hs ?_, fun b2 more hr h => d.turn_of_failure hs ?_⟩
  · rw [hd, decode_illegalByte (mem_illegalBytes h)]
  · have hbit : b2.getLsbD 5 = (b2Reg b2).getLsbD 2 := by simp [b2Reg]
    rw [hbit] at h
    rw [hd, hr, decode_illegalGroup h]

/-- A type of the format MR has its b2 read by the length rule (30_encoding.md R94). -/
theorem hasModRM_of_MR {kind : RowKind} (h : kind.format = some .MR) : kind.hasModRM = true := by
  cases kind with
  | MRdw | MRw | MR => rfl
  | _ => cases h

/-- Every other format with a mod/reg/rm byte fixes bits of it. -/
theorem mask2_of_hasModRM {kind : RowKind} (h : kind.hasModRM = true) (hf : kind.format ≠ some .MR) :
    kind.mask2 ≠ 0 := by
  cases kind with
  | MRdw | MRw | MR => exact absurd rfl hf
  | MRIsw | MRIw | Mw | M | MV => exact show (0x38 : Byte) ≠ 0 by decide
  | MS => exact show (0x20 : Byte) ≠ 0 by decide
  | _ => cases h

/-- The classifier or the length rule reads b2 where b1 is a group's first byte and for the MR forms
(60_exceptions.md R511). -/
theorem reads_b2_iff {row : Row} (hr : row ∈ decodableRows) {i : Instr} {bytes : List Byte} (hl : row.Lays i true bytes)
    {b1 : Byte} (h1 : b1 &&& row.kind.mask1 = row.byte1) :
    (row.kind.hasModRM || needsB2 b1) = true ↔ b1 ∈ inspectsB2 ∨ ∃ t, i.type = some t ∧ t.format = .MR := by
  rw [Bool.or_eq_true, needsB2_iff, or_comm, ← Option.map_eq_some_iff, (sound_of_mem row hr _ _ _ hl).format]
  refine ⟨fun h => ?_, Or.imp_right hasModRM_of_MR⟩
  obtain hb | hmod := h
  · exact .inl hb
  · refine or_iff_not_imp_right.mpr fun hf => needsB2_iff.mp ?_
    exact needsB2_of_mask2 (mem_opcodeTable.mpr (.inl hr)) (mask2_of_hasModRM hmod hf) h1

/-- Settles O6: a cut encoding matches its instruction's row, which cannot be built from it. -/
theorem truncatedEncodingsAreTruncated : Obligations.TruncatedEncodingsAreTruncated := by
  intro stream d hs
  refine ⟨fun b1 hb hd => d.turn_of_failure hs ?_, fun i k hw hi hk1 hk hd => ?_⟩
  · rw [hd, decode_ends_at_b1 (needsB2_iff.mpr hb)]
  · have hlen := encode_length i
    obtain ⟨n, rfl⟩ : ∃ n, k = n + 1 := ⟨k - 1, by omega⟩
    obtain ⟨b1, tail, he⟩ := List.exists_cons_of_length_pos (l := encode i) (by omega)
    rw [he, List.length_cons] at hlen
    have hcut : encode i = b1 :: (tail.take n ++ tail.drop n) := by rw [he, List.take_append_drop]
    have hmore : tail.drop n ≠ [] := List.ne_nil_of_length_pos (by rw [List.length_drop]; omega)
    obtain ⟨row, hr, hl, h1, hdec⟩ := decode_of_cut hw hi hcut hmore
    rw [he, List.take_succ_cons] at hd
    rw [← hd, List.head?_take] at hdec
    have hreads := reads_b2_iff hr hl h1
    refine ⟨b1, _, by rw [he]; rfl, d.turn_of_failure hs hdec, fun hn => ?_, fun hn h => ?_, fun hb ht => ?_⟩
    · rw [if_pos (by omega : n = 0), ite_self]
    · rw [if_pos (hreads.mpr h), if_neg (by omega), he, List.getElem?_cons_succ, List.head?_eq_getElem?]
    · rw [if_neg]
      exact fun h => (hreads.mp h).elim hb fun ⟨t, hi, hf⟩ => ht t hi hf

/-- Settles O1: the decoder evaluates on each word. -/
theorem specWordsDecode : Obligations.SpecWordsDecode :=
  ⟨rfl, rfl, rfl, rfl, rfl, rfl, rfl, rfl, rfl, rfl, rfl, rfl⟩

/-- Settles O42: each of the nine meanings is the failure with the form's own bytes. -/
theorem refusedFormsStop : Obligations.RefusedFormsStop := by
  intro s x sr imm
  have hesc : ∀ x : BitVec 3, (0xD8 : Byte) ||| x.setWidth 8 = 0xD8 + x.setWidth 8 := by decide
  refine ⟨rfl, rfl, rfl, rfl, rfl, ?_, ?_, rfl, rfl⟩
  · rw [← hesc]
    rfl
  · cases sr <;> rfl

end Sys2Proof.Machine
end

section
/-! PROOFS. Family 40_decoder.md, the decode pass: the label resolver, the emission of a record, and what every turn of
a pass and every step of the machine keep. -/

namespace Sys2Proof.Machine

/-! ## The label resolver -/

theorem insertLabel_nil (t : Int) : insertLabel [] t = [t] := rfl

theorem insertLabel_cons_of_lt {l t : Int} (h : l < t) (rest : List Int) :
    insertLabel (l :: rest) t = l :: insertLabel rest t := if_pos h

theorem insertLabel_cons_self (t : Int) (rest : List Int) : insertLabel (t :: rest) t = t :: rest := by
  simp [insertLabel]

theorem insertLabel_cons_of_gt {l t : Int} (h : t < l) (rest : List Int) :
    insertLabel (l :: rest) t = t :: l :: rest := by
  rw [insertLabel, if_neg (by omega), if_neg (by omega)]

/-- The scan stops at the first label that is not below `t`. -/
theorem insertLabel_eq (labels : List Int) (t : Int) : insertLabel labels t =
    if (labels.dropWhile (fun l => decide (l < t))).head? = some t then labels
    else labels.takeWhile (fun l => decide (l < t)) ++ t :: labels.dropWhile (fun l => decide (l < t)) := by
  induction labels with
  | nil => rfl
  | cons l rest ih =>
    obtain h | rfl | h := lt_trichotomy l t
    · simp only [insertLabel_cons_of_lt h, ih, List.dropWhile_cons, List.takeWhile_cons, decide_eq_true h, if_true]
      split <;> rfl
    · simp [insertLabel_cons_self]
    · simp [insertLabel_cons_of_gt h, show ¬ l < t by omega, show l ≠ t by omega]

/-- Settles O11: the linear scan, and the spec's example evaluated. -/
theorem labelInsertIsLinearScan : Obligations.LabelInsertIsLinearScan :=
  ⟨insertLabel_eq, by decide⟩

theorem mem_insertLabel {labels : List Int} {t u : Int} : u ∈ insertLabel labels t ↔ u = t ∨ u ∈ labels := by
  induction labels with
  | nil => simp [insertLabel_nil]
  | cons l rest ih =>
    obtain h | rfl | h := lt_trichotomy l t
    · rw [insertLabel_cons_of_lt h, List.mem_cons, ih, List.mem_cons]
      exact or_left_comm
    · simp [insertLabel_cons_self]
    · rw [insertLabel_cons_of_gt h, List.mem_cons]

/-- Insertion keeps the labels strictly ascending (40_decoder.md R149). -/
theorem insertLabel_ascending {labels : List Int} (t : Int) (h : labels.Pairwise (· < ·)) :
    (insertLabel labels t).Pairwise (· < ·) := by
  induction labels with
  | nil => simp [insertLabel_nil]
  | cons l rest ih =>
    obtain ⟨hl, hrest⟩ := List.pairwise_cons.mp h
    obtain hlt | rfl | hgt := lt_trichotomy l t
    · rw [insertLabel_cons_of_lt hlt]
      refine List.pairwise_cons.mpr ⟨fun u hu => ?_, ih hrest⟩
      obtain rfl | hu := mem_insertLabel.mp hu
      · exact hlt
      · exact hl u hu
    · rwa [insertLabel_cons_self]
    · rw [insertLabel_cons_of_gt hgt]
      refine List.pairwise_cons.mpr ⟨fun u hu => ?_, h⟩
      obtain rfl | hu := List.mem_cons.mp hu
      · exact hgt
      · exact hgt.trans (hl u hu)

/-! ## Emitting a record -/

theorem totalSize_append (first second : List Record) :
    totalSize (first ++ second) = totalSize first + totalSize second := by
  simp [totalSize]

theorem totalSize_singleton (I : Record) : totalSize [I] = I.size := by simp [totalSize]

theorem jumpTargets_append (first second : List Record) :
    jumpTargets (first ++ second) = jumpTargets first ++ jumpTargets second :=
  List.filterMap_append

section
variable {I : Record} {t : Int} (hf : I.type.format = .J8) (hd : I.dst = some (.JumpLabel t))
include hf hd

/-- A J8 record inserts its target (40_decoder.md R134, R140). -/
theorem labelsAfter_of_jump (labels : List Int) : labelsAfter I labels = insertLabel labels t := by
  simp only [labelsAfter, hf, hd]

theorem jumpTargets_of_jump : jumpTargets [I] = [t] :=
  List.filterMap_cons_some (by simp only [hf, hd])

end

section
variable {I : Record} (h : ∀ t, I.type.format = .J8 → I.dst ≠ some (.JumpLabel t))
include h

/-- Every other record leaves the labels alone. -/
theorem labelsAfter_of_no_jump (labels : List Int) : labelsAfter I labels = labels := by
  unfold labelsAfter
  split
  · rename_i t hf hd
    exact absurd hd (h t hf)
  · rfl

theorem jumpTargets_of_no_jump : jumpTargets [I] = [] := by
  refine List.filterMap_cons_none ?_
  split
  · rename_i t hf hd
    exact absurd hd (h t hf)
  · rfl

end

/-- A record has a jump target, or none. -/
theorem jump_or_not (I : Record) : (∃ t, I.type.format = .J8 ∧ I.dst = some (.JumpLabel t)) ∨
    ∀ t, I.type.format = .J8 → I.dst ≠ some (.JumpLabel t) := by
  by_cases h : ∃ t, I.type.format = .J8 ∧ I.dst = some (.JumpLabel t)
  · exact .inl h
  · exact .inr fun t hf hd => h ⟨t, hf, hd⟩

theorem mem_labelsAfter {I : Record} {labels : List Int} {t : Int} :
    t ∈ labelsAfter I labels ↔ t ∈ labels ∨ t ∈ jumpTargets [I] := by
  obtain ⟨u, hf, hd⟩ | h := jump_or_not I
  · rw [labelsAfter_of_jump hf hd, jumpTargets_of_jump hf hd, mem_insertLabel, List.mem_singleton]
    exact or_comm
  · rw [labelsAfter_of_no_jump h, jumpTargets_of_no_jump h]
    exact (or_iff_left List.not_mem_nil).symm

theorem labelsAfter_ascending {labels : List Int} (I : Record) (h : labels.Pairwise (· < ·)) :
    (labelsAfter I labels).Pairwise (· < ·) := by
  obtain ⟨u, hf, hd⟩ | hI := jump_or_not I
  · rw [labelsAfter_of_jump hf hd]
    exact insertLabel_ascending u h
  · rwa [labelsAfter_of_no_jump hI]

/-- An emission keeps the decoder's invariant, whatever the record (40_decoder.md R150, R152). -/
theorem Decoder.Inv.emit {d : Decoder} (h : d.Inv) (I : Record) : (d.emit I).Inv where
  ascending := labelsAfter_ascending I h.ascending
  targets t := by
    rw [Decoder.emit_labels, mem_labelsAfter, h.targets, Decoder.emit_seq, jumpTargets_append, List.mem_append]
  cursor := by
    rw [Decoder.emit_cursor, h.cursor, Decoder.emit_seq, totalSize_append, totalSize_singleton]

theorem Decoder.inv_reset : Decoder.reset.Inv :=
  ⟨List.Pairwise.nil, fun _ => Iff.rfl, rfl⟩

/-- A record decoded at the end of the list joins the records that come from the stream. -/
theorem DecodedFrom.append {stream rest : List Byte} {seq : List Record} {i : Instr} {I : Record}
    (h : DecodedFrom stream seq) (hd : decode (stream.drop (totalSize seq)) = .ok (i, rest))
    (hI : i.record (totalSize seq) = some I) : DecodedFrom stream (seq ++ [I]) := by
  intro k J hJ
  obtain hk | hk := lt_or_ge k seq.length
  · rw [List.getElem?_append_left hk] at hJ
    rw [List.take_append_of_le_length hk.le]
    exact h k J hJ
  · rw [List.getElem?_append_right hk, List.getElem?_singleton] at hJ
    split at hJ
    · cases hJ
      rw [show k = seq.length by omega, List.take_left]
      exact ⟨i, rest, hd, hI⟩
    · cases hJ

/-! ## Decodings -/

theorem record_eq_some {i : Instr} {p : Nat} {I : Record} : i.record p = some I ↔
    ∃ t, i.type = some t ∧ I = ⟨t, i.size, i.wideFlag, (i.operands p).1, (i.operands p).2⟩ := by
  unfold Instr.record
  cases i.type <;> simp [eq_comm]

theorem record_type {i : Instr} {p : Nat} {I : Record} (h : i.record p = some I) : i.type = some I.type := by
  obtain ⟨t, ht, rfl⟩ := record_eq_some.mp h
  exact ht

theorem record_size {i : Instr} {p : Nat} {I : Record} (h : i.record p = some I) : I.size = i.size := by
  obtain ⟨t, -, rfl⟩ := record_eq_some.mp h
  rfl

/-- Every instruction that is no refused form has its row's type (30_encoding.md R91). -/
theorem type_isSome {i : Instr} (h : i.isRefused = false) : i.type.isSome = true := by
  obtain ⟨row, hrow, hl⟩ := lays_of_rowIndex h
  have hr := List.mem_of_getElem? hrow
  have hf := format_isSome_of_mem row hr
  rw [← (sound_of_mem row hr _ _ _ hl).format, Option.isSome_map] at hf
  exact hf

theorem type_of_refused {i : Instr} (h : i.isRefused = true) : i.type = none := by
  cases i with
  | callNear | callFar | jmpNear | jmpShort | jmpFar | esc | segment | aamBase | aadBase => rfl
  | _ => cases h

theorem exists_record {i : Instr} (h : i.isRefused = false) (p : Nat) : ∃ I, i.record p = some I := by
  obtain ⟨t, ht⟩ := Option.isSome_iff_exists.mp (type_isSome h)
  exact ⟨_, record_eq_some.mpr ⟨t, ht, rfl⟩⟩

/-- A decoded instruction lies inside the stream (40_decoder.md R140). -/
theorem size_le_of_decode {stream rest : List Byte} {p : Nat} {i : Instr}
    (h : decode (stream.drop p) = .ok (i, rest)) : p + i.size ≤ stream.length := by
  obtain ⟨-, -, hbs⟩ := encodeOfDecode _ _ _ h
  obtain ⟨b1, t, row, hcons, -⟩ := row_of_decode h
  have hsize := congrArg List.length hbs
  have hpos := congrArg List.length hcons
  rw [List.length_append, encode_length, List.length_drop] at hsize
  rw [List.length_cons, List.length_drop] at hpos
  omega

theorem record_of_decode {bs rest : List Byte} {i : Instr} (h : decode bs = .ok (i, rest)) (p : Nat) :
    ∃ I, i.record p = some I := by
  obtain ⟨-, hi, -⟩ := encodeOfDecode _ _ _ h
  exact exists_record hi p

/-! ## What a turn of a pass does -/

/-- A running pass decodes an instruction at its cursor, and its record is `I`. -/
structure Decoder.Decodes (stream : List Byte) (d : Decoder) (I : Record) : Prop where
  running : d.status = .Running
  decoded : ∃ i rest, decode (stream.drop d.cursor) = .ok (i, rest) ∧ i.record d.cursor = some I

theorem Decoder.turn_of_decodes {stream : List Byte} {d : Decoder} {I : Record} (h : d.Decodes stream I) :
    d.turn stream = d.emit I := by
  obtain ⟨hs, i, rest, hd, hI⟩ := h
  simp only [Decoder.turn, hs, hd, hI]

theorem Decoder.turn_at_end {stream : List Byte} {d : Decoder} (hs : d.status = .Running)
    (h : decode (stream.drop d.cursor) = .error .endOfStream) : d.turn stream = { d with status := .Done } := by
  simp only [Decoder.turn, hs, h]

theorem Decoder.turn_of_over {stream : List Byte} {d : Decoder} (hs : d.status ≠ .Running) : d.turn stream = d := by
  unfold Decoder.turn
  split
  · rfl
  · rfl
  · exact absurd ‹_› hs

/-- All that a turn of a running pass can do: it emits a record, ends the pass at the end of the stream, or fails it. -/
theorem Decoder.turn_cases {d : Decoder} (stream : List Byte) (hs : d.status = .Running) :
    (∃ I, d.Decodes stream I ∧ d.turn stream = d.emit I) ∨
    (decode (stream.drop d.cursor) = .error .endOfStream ∧ d.turn stream = { d with status := .Done }) ∨
    (∃ reason b1 b2, decode (stream.drop d.cursor) = .error (.failure reason b1 b2) ∧
      d.turn stream = { d with status := .Failed ⟨reason, d.cursor, b1, b2⟩ }) := by
  cases hd : decode (stream.drop d.cursor) with
  | ok x =>
    obtain ⟨I, hI⟩ := record_of_decode hd d.cursor
    have h : d.Decodes stream I := ⟨hs, x.1, x.2, hd, hI⟩
    exact .inl ⟨I, h, d.turn_of_decodes h⟩
  | error e =>
    cases e with
    | endOfStream => exact .inr (.inl ⟨rfl, d.turn_at_end hs hd⟩)
    | failure reason b1 b2 => exact .inr (.inr ⟨reason, b1, b2, rfl, d.turn_of_failure hs hd⟩)

/-- The decoder's invariant, with every record of the list decoded from the stream (40_decoder.md R140, R150, R152). -/
structure Decoder.Faithful (stream : List Byte) (d : Decoder) : Prop where
  inv : d.Inv
  decoded : DecodedFrom stream d.seq

theorem Decoder.faithful_reset (stream : List Byte) : Decoder.reset.Faithful stream :=
  ⟨Decoder.inv_reset, fun k I h => by simp [Decoder.reset] at h⟩

theorem Decoder.Faithful.withStatus {stream : List Byte} {d : Decoder} (h : d.Faithful stream) (status : DecStatus) :
    { d with status := status : Decoder }.Faithful stream :=
  ⟨⟨h.inv.ascending, h.inv.targets, h.inv.cursor⟩, h.decoded⟩

theorem Decoder.Faithful.emit {stream : List Byte} {d : Decoder} {I : Record} (h : d.Faithful stream)
    (hI : d.Decodes stream I) : (d.emit I).Faithful stream := by
  obtain ⟨-, i, rest, hd, hr⟩ := hI
  rw [h.inv.cursor] at hd hr
  exact ⟨h.inv.emit I, DecodedFrom.append h.decoded hd hr⟩

theorem Decoder.Faithful.turn {stream : List Byte} {d : Decoder} (h : d.Faithful stream) :
    (d.turn stream).Faithful stream := by
  by_cases hs : d.status = .Running
  · obtain ⟨I, hI, ht⟩ | ⟨-, ht⟩ | ⟨reason, b1, b2, -, ht⟩ := Decoder.turn_cases stream hs <;> rw [ht]
    · exact h.emit hI
    · exact h.withStatus _
    · exact h.withStatus _
  · rwa [Decoder.turn_of_over hs]

theorem Decoder.Faithful.turns {stream : List Byte} (n : Nat) {d : Decoder} (h : d.Faithful stream) :
    (Decoder.turns stream n d).Faithful stream := by
  induction n generalizing d with
  | zero => exact h
  | succ n ih => exact ih h.turn

/-- Settles O12: the pass starts faithful to its stream, and every turn keeps it so. -/
theorem passKeepsLabelsAndOffsets : Obligations.PassKeepsLabelsAndOffsets := by
  intro stream n
  obtain ⟨hinv, hdec⟩ := (Decoder.faithful_reset stream).turns n
  exact ⟨hinv, hdec⟩

/-! ## What a step does -/

/-- Where a running pass decodes an instruction at its cursor and no record waits, a step is the execution unit's step
on the record, then its emission (42_execution_unit.md R198, R216). -/
theorem step_of_decodes {s : State} {I : Record} (hw : s.dec.seq[s.pos]? = none) (h : s.dec.Decodes s.stream I) :
    step s = (simulateInstruction I s).andThen fun t => .next { t with dec := t.dec.emit I, pos := t.pos + 1 } := by
  obtain ⟨hs, i, rest, hd, hI⟩ := h
  simp only [step, hw, hs, stepDecode, hd, exec_eq_simulateInstruction hI, State.emitted_record _ _ _ _ hI]

/-- Settles O52: a decoding is no refused form, so it has a record, which the step emits. -/
theorem stepRunsTheDecodedInstruction : Obligations.StepRunsTheDecodedInstruction := by
  intro s i rest hw hs hd
  obtain ⟨I, hI⟩ := record_of_decode hd s.dec.cursor
  refine ⟨I, hI, ?_⟩
  rw [step_of_decodes hw ⟨hs, i, rest, hd, hI⟩, exec_eq_simulateInstruction hI, ← record_size hI]
  cases simulateInstruction I s <;> rfl

/-- Settles O54: each end is one branch of the step, and a stream that has run out decodes to no instruction. -/
theorem stepAtTheEndOfThePass : Obligations.StepAtTheEndOfThePass := by
  intro s hw
  refine ⟨fun hs hb => ?_, fun reason b1 b2 hs hd => ?_, fun hs => ?_, fun f hs => ?_⟩
  · simp only [step, hw, hs, stepDecode, decode_eq_endOfStream.mpr hb]
  · simp only [step, hw, hs, stepDecode, hd, raiseDecode]
  · simp only [step, hw, hs]
  · simp only [step, hw, hs]

/-! ## What a step keeps -/

/-- No operation sets CF, AF or OF (42_execution_unit.md R196). -/
theorem ExecOp.run_keeps_flagsClean {op : ExecOp} {I : Record} {s t : State} (h : op.run I s = .next t)
    (hF : FlagsClean s.ctx) : FlagsClean t.ctx := by
  cases op with
  | copy => rwa [FlagsClean, simMove_keeps_flags h]
  | alu op =>
    obtain ⟨r, src, -, -, rfl⟩ := simAlu_cases h
    cases op with
    | add => exact hF
    | sub => exact ⟨rfl, rfl, rfl⟩
  | compare =>
    obtain rfl := simCmp_cases h
    exact ⟨rfl, rfl, rfl⟩

theorem simulateInstruction_keeps_flagsClean {I : Record} {s t : State} (h : simulateInstruction I s = .next t)
    (hF : FlagsClean s.ctx) : FlagsClean t.ctx := by
  obtain ⟨op, -, hrun⟩ := simulateInstruction_cases h
  exact ExecOp.run_keeps_flagsClean hrun hF

/-- The part of the machine's invariant that speaks of the decode pass and of the run's place in it. -/
structure PassInv (stream : List Byte) (d : Decoder) (pos : Nat) : Prop extends Decoder.Faithful stream d where
  inside : d.cursor ≤ stream.length
  ended : d.status = .Done → d.cursor = stream.length
  position : pos ≤ d.seq.length

theorem State.inv_iff {s : State} : s.Inv ↔
    s.ctx.mem.wf s.params.memSize ∧ FlagsClean s.ctx ∧ PassInv s.stream s.dec s.pos :=
  ⟨fun h => ⟨h.memory, h.flags, ⟨⟨h.decoder, h.decoded⟩, h.inside, h.ended, h.position⟩⟩,
    fun ⟨hm, hF, hp⟩ => ⟨hm, hF, hp.inv, hp.decoded, hp.inside, hp.ended, hp.position⟩⟩

/-- A completed record keeps the invariant's part on memory and flags, and leaves the pass where it was. -/
theorem State.Inv.of_simulateInstruction {I : Record} {s t : State} (h : s.Inv)
    (ht : simulateInstruction I s = .next t) : t.Inv := by
  have hf := simulateInstruction_frame ht
  obtain ⟨hm, hF, hp⟩ := State.inv_iff.mp h
  refine State.inv_iff.mpr ⟨?_, simulateInstruction_keeps_flagsClean ht hF, ?_⟩
  · rwa [hf.mem, hf.params]
  · rwa [hf.stream, hf.dec, hf.pos]

theorem PassInv.emit {stream : List Byte} {d : Decoder} {pos : Nat} {I : Record} (h : PassInv stream d pos)
    (hI : d.Decodes stream I) : PassInv stream (d.emit I) (pos + 1) where
  toFaithful := h.toFaithful.emit hI
  inside := by
    obtain ⟨-, i, rest, hd, hr⟩ := hI
    rw [Decoder.emit_cursor, record_size hr]
    exact size_le_of_decode hd
  ended hs := by
    rw [Decoder.emit_status, hI.running] at hs
    cases hs
  position := by
    rw [Decoder.emit_seq, List.length_append, List.length_singleton]
    exact Nat.succ_le_succ h.position

/-- Settles O56: the four things that a completed step can do are to run the waiting record, to stay, to end the pass at
the end of the stream, and to run and emit a decoded record. -/
theorem stepKeepsTheInvariant : Obligations.StepKeepsTheInvariant := by
  intro s t h hstep
  obtain ⟨I, u, hw, hu, rfl⟩ | ⟨-, -, rfl⟩ | ⟨-, -, hd, rfl⟩ | ⟨i, rest, u, -, hs, hd, hu, rfl⟩ := step_cases hstep
  · obtain ⟨hm, hF, hp⟩ := State.inv_iff.mp (h.of_simulateInstruction hu)
    have hf := simulateInstruction_frame hu
    refine State.inv_iff.mpr ⟨hm, hF, { hp with position := ?_ }⟩
    obtain ⟨hlt, -⟩ := List.getElem?_eq_some_iff.mp hw
    rwa [hf.pos, hf.dec]
  · exact h
  · obtain ⟨hm, hF, hp⟩ := State.inv_iff.mp h
    have hlen : s.stream.length ≤ s.dec.cursor := List.drop_eq_nil_iff.mp (decode_eq_endOfStream.mp hd)
    exact State.inv_iff.mpr ⟨hm, hF, hp.toFaithful.withStatus _, hp.inside, fun _ => le_antisymm hp.inside hlen,
      hp.position⟩
  · obtain ⟨I, hI⟩ := record_of_decode hd s.dec.cursor
    rw [exec_eq_simulateInstruction hI] at hu
    have hf := simulateInstruction_frame hu
    obtain ⟨hm, hF, hp⟩ := State.inv_iff.mp (h.of_simulateInstruction hu)
    rw [State.emitted_record _ _ _ _ hI]
    refine State.inv_iff.mpr ⟨hm, hF, hp.emit ?_⟩
    rw [hf.stream, hf.dec]
    exact ⟨hs, i, rest, hd, hI⟩

end Sys2Proof.Machine
end

section
/-! PROOFS. Family 40_decoder.md, decoding and running: the machine's steps are the decode pass followed by the run of
its records. -/

namespace Sys2Proof.Machine

/-! ## Records of instructions cause no contract violation -/

/-- A record that the execution unit answers without a contract violation: of a type it does not run, with a memory
operand, or with a register as its destination and a register or an immediate as its source. -/
inductive Record.Proper (I : Record) : Prop
  | unsupported (h : I.type.execOp = none)
  | memory (h : I.hasMemory = true)
  | registers (r q : RegName) (hd : I.dst = some (.Register r)) (hs : I.src = some (.Register q))
  | immediate (r : RegName) (v : Word) (a b : Bool) (hd : I.dst = some (.Register r))
      (hs : I.src = some (.Immediate v a b))

theorem simulateInstruction_ne_fault_of_proper {I : Record} (h : I.Proper) (s : State) (f : Fault) :
    simulateInstruction I s ≠ .fault f := by
  unfold simulateInstruction
  cases hop : I.type.execOp with
  | none => exact nofun
  | some op =>
    cases hm : I.hasMemory with
    | true => cases op <;> simp [ExecOp.run, simMove, simAlu, simCmp, noMemory, hm, raiseMemoryOperand, raiseSimulation]
    | false =>
      cases h with
      | unsupported h => rw [hop] at h; cases h
      | memory h => rw [hm] at h; cases h
      | registers r q hd hs =>
        cases op <;> simp [ExecOp.run, simMove, simAlu, simCmp, noMemory, hm, operandsOf, hd, hs]
      | immediate r v a b hd hs =>
        cases op <;> simp [ExecOp.run, simMove, simAlu, simCmp, noMemory, hm, operandsOf, hd, hs]

/-- A register against an rm operand, in either order. -/
theorem proper_of_direction (t : InstrType) (n : Nat) (d w : Bool) (reg : RegName) (rm : RMOperand) :
    (twoOperandRecord t n (direction d (.Register reg) (rmLocation w false rm))).Proper := by
  cases rm with
  | reg q => cases d <;> exact .registers _ _ rfl rfl
  | mem ea => cases d <;> exact .memory rfl

/-- An rm operand as destination of an immediate. -/
theorem proper_of_immediate (t : InstrType) (n : Nat) (w a b : Bool) (rm : RMOperand) (v : Word) :
    (twoOperandRecord t n (rmLocation w false rm, .Immediate v a b)).Proper := by
  cases rm with
  | reg q => exact .immediate _ _ _ _ rfl rfl
  | mem ea => exact .memory rfl

/-- The decoder builds no record that violates the contract (60_exceptions.md R515). -/
theorem proper_of_record {i : Instr} {p : Nat} {I : Record} (h : i.record p = some I) : I.Proper := by
  cases i with
  | movRmReg d w reg rm | addRmReg d w reg rm | subRmReg d w reg rm | cmpRmReg d w reg rm =>
    cases h; exact proper_of_direction _ _ d w reg rm
  | addImmRm s w rm imm | subImmRm s w rm imm | cmpImmRm s w rm imm =>
    cases h; exact proper_of_immediate _ _ w _ _ rm imm
  | movImmReg w reg imm => cases h; exact .immediate _ _ _ _ rfl rfl
  | movRmSr sr rm => cases h; exact proper_of_direction _ _ true true sr.name rm
  | movSrRm sr rm => cases h; exact proper_of_direction _ _ false true sr.name rm
  | _ => cases h <;> exact .unsupported rfl

theorem simulate_ne_violation {seq : List Record} (h : ∀ I ∈ seq, I.Proper) (s : State) (f : Fault) :
    simulate seq s ≠ .violation f := by
  induction seq generalizing s with
  | nil => exact nofun
  | cons I rest ih =>
    cases hI : simulateInstruction I s with
    | next t =>
      rw [simulate_cons_next hI]
      exact ih (fun J hJ => h J (List.mem_cons_of_mem I hJ)) t
    | fault g => exact absurd hI (simulateInstruction_ne_fault_of_proper (h I List.mem_cons_self) s g)
    | refused r =>
      rw [simulate_cons_refused hI]
      exact nofun

/-! ## The execution unit does not look at the pass -/

/-- The state with another decode pass, and the run at another place in it. -/
def State.withPass (s : State) (d : Decoder) (pos : Nat) : State := { s with dec := d, pos := pos }

@[simp] theorem State.withPass_dec (s : State) (d : Decoder) (n : Nat) : (s.withPass d n).dec = d := rfl
@[simp] theorem State.withPass_pos (s : State) (d : Decoder) (n : Nat) : (s.withPass d n).pos = n := rfl
@[simp] theorem State.withPass_stream (s : State) (d : Decoder) (n : Nat) : (s.withPass d n).stream = s.stream := rfl

theorem Out.andThen_assoc {α β γ : Type} (o : Out α) (k : α → Out β) (l : β → Out γ) :
    (o.andThen k).andThen l = o.andThen fun a => (k a).andThen l := by
  cases o <;> rfl

theorem noMemory_andThen (I : Record) (k : Out State) (l : State → Out State) :
    (noMemory I k).andThen l = noMemory I (k.andThen l) := by
  unfold noMemory
  split <;> rfl

/-- The execution unit does the same under another pass (40_decoder.md R121; 42_execution_unit.md R198). -/
theorem simulateInstruction_withPass (I : Record) (s : State) (d : Decoder) (n : Nat) :
    simulateInstruction I (s.withPass d n) = (simulateInstruction I s).andThen fun t => .next (t.withPass d n) := by
  unfold simulateInstruction
  cases I.type.execOp with
  | none => rfl
  | some op =>
    cases op <;> simp only [ExecOp.run, simMove, simAlu, simCmp, noMemory_andThen, Out.andThen_assoc] <;> rfl

/-! ## A pass as the records it yields -/

/-- The decoder after the emission of a list of records. -/
def Decoder.emitAll (d : Decoder) (seq : List Record) : Decoder := seq.foldl (fun d I => d.emit I) d

theorem Decoder.emitAll_seq (d : Decoder) (seq : List Record) : (d.emitAll seq).seq = d.seq ++ seq := by
  induction seq generalizing d with
  | nil => exact (List.append_nil _).symm
  | cons I rest ih => exact (ih (d.emit I)).trans (by simp)

theorem Decoder.emitAll_status (d : Decoder) (seq : List Record) : (d.emitAll seq).status = d.status := by
  induction seq generalizing d with
  | nil => rfl
  | cons I rest ih => exact ih (d.emit I)

/-- From this pass on, the stream decodes to these records, one after the other. -/
inductive Decoder.Yields (stream : List Byte) : Decoder → List Record → Prop
  | nil (d : Decoder) : Yields stream d []
  | cons {d : Decoder} {I : Record} {rest : List Record} (head : d.Decodes stream I)
      (tail : Yields stream (d.emit I) rest) : Yields stream d (I :: rest)

theorem Decoder.Yields.take {stream : List Byte} {d : Decoder} {seq : List Record} (h : d.Yields stream seq) (k : Nat) :
    d.Yields stream (seq.take k) := by
  induction h generalizing k with
  | nil d => rw [List.take_nil]; exact .nil d
  | cons head tail ih =>
    cases k with
    | zero => exact .nil _
    | succ k => exact .cons head (ih k)

theorem Decoder.Yields.proper {stream : List Byte} {d : Decoder} {seq : List Record} (h : d.Yields stream seq) :
    ∀ I ∈ seq, I.Proper := by
  induction h with
  | nil => exact fun I hI => absurd hI List.not_mem_nil
  | cons head tail ih =>
    obtain ⟨-, i, rest, -, hI⟩ := head
    exact List.forall_mem_cons.mpr ⟨proper_of_record hI, ih⟩

theorem Decoder.turns_of_over {stream : List Byte} {d : Decoder} (hs : d.status ≠ .Running) (n : Nat) :
    Decoder.turns stream n d = d := by
  induction n with
  | zero => rfl
  | succ n ih => rw [Decoder.turns, Decoder.turn_of_over hs, ih]

/-- Turns of a running pass emit the records that the stream yields; where they end it, one turn more has done so. -/
theorem Decoder.turns_yields (stream : List Byte) (n : Nat) {d : Decoder} (hs : d.status = .Running) :
    ∃ seq, d.Yields stream seq ∧ (Decoder.turns stream n d).seq = d.seq ++ seq ∧
      ((Decoder.turns stream n d).status ≠ .Running →
        Decoder.turns stream n d = (d.emitAll seq).turn stream) := by
  induction n generalizing d with
  | zero => exact ⟨[], .nil d, (List.append_nil _).symm, fun h => absurd hs h⟩
  | succ n ih =>
    rw [Decoder.turns]
    obtain ⟨I, hI, ht⟩ | ⟨-, ht⟩ | ⟨reason, b1, b2, -, ht⟩ := Decoder.turn_cases stream hs
    · obtain ⟨seq, hy, hseq, hend⟩ := ih (d := d.emit I) hs
      rw [ht]
      exact ⟨I :: seq, .cons hI hy, hseq.trans (by simp), hend⟩
    all_goals
      rw [Decoder.turns_of_over (by rw [ht]; exact nofun)]
      exact ⟨[], .nil d, by rw [ht, List.append_nil], fun _ => rfl⟩

/-! ## Steps -/

/-- `k` steps of the machine, up to the first stop. -/
def steps : Nat → State → Out State
  | 0, s => .next s
  | k + 1, s => Out.andThen (step s) (steps k)

/-- The host's run of the machine is its steps. -/
theorem run_eq_steps (k : Nat) (s : State) : Host.Core.run Sys2Proof.core k s = steps k s := by
  induction k generalizing s with
  | zero => rfl
  | succ k ih =>
    have hrun := Host.Core.run.eq_2 Sys2Proof.core s k
    have hstep : Sys2Proof.core.step s = step s := rfl
    rw [steps]
    cases h : step s with
    | next t => exact (by rw [hrun, hstep.trans h] : _ = Host.Core.run Sys2Proof.core k t).trans (ih t)
    | fault f => rw [hrun, hstep.trans h]; rfl
    | refused r => rw [hrun, hstep.trans h]; rfl

/-- The last of the steps, apart. -/
theorem steps_succ_last (k : Nat) (s : State) : steps (k + 1) s = (steps k s).andThen step := by
  induction k generalizing s with
  | zero =>
    rw [steps, steps, Out.andThen_next]
    cases step s <;> rfl
  | succ k ih =>
    rw [steps, steps, Out.andThen_assoc]
    exact congrArg _ (funext ih)

/-- Where a turn would end the pass, a step ends it. -/
theorem step_of_turn_done {s : State} (hw : s.dec.seq[s.pos]? = none) (hs : s.dec.status = .Running)
    (h : (s.dec.turn s.stream).status = .Done) : step s = .next { s with dec := s.dec.turn s.stream } := by
  obtain ⟨atEnd, -, -, -⟩ := stepAtTheEndOfThePass s hw
  obtain ⟨I, -, ht⟩ | ⟨hd, ht⟩ | ⟨reason, b1, b2, -, ht⟩ := Decoder.turn_cases s.stream hs <;> rw [ht] at h ⊢
  · rw [Decoder.emit_status, hs] at h
    cases h
  · exact atEnd hs (decode_eq_endOfStream.mp hd)
  · cases h

/-- Where a turn would fail the pass, a step is refused with its failure. -/
theorem step_of_turn_failed {s : State} {f : DecodeFailure} (hw : s.dec.seq[s.pos]? = none)
    (hs : s.dec.status = .Running) (h : (s.dec.turn s.stream).status = .Failed f) :
    step s = .refused (.decodeFailure f) := by
  obtain ⟨-, atFailure, -, -⟩ := stepAtTheEndOfThePass s hw
  obtain ⟨I, -, ht⟩ | ⟨-, ht⟩ | ⟨reason, b1, b2, hd, ht⟩ := Decoder.turn_cases s.stream hs <;> rw [ht] at h
  · rw [Decoder.emit_status, hs] at h
    cases h
  · cases h
  · cases h
    exact atFailure reason b1 b2 hs hd

/-- The result of a run as the outcome of the machine's steps, which end in this pass and at this place in it. -/
def RunResult.asSteps (d : Decoder) (pos : Nat) : RunResult → Out State
  | .returned t none => .next (t.withPass d pos)
  | .returned _ (some r) => .refused r
  | .violation f => .fault f

/-- One step of a machine whose pass yields a record next: the record runs, and the pass and the run move past it. -/
theorem step_withPass {s : State} {d : Decoder} {I : Record} (h : d.Decodes s.stream I) :
    step (s.withPass d d.seq.length) =
      (simulateInstruction I s).andThen fun t => .next (t.withPass (d.emit I) (d.emit I).seq.length) := by
  have hw : (s.withPass d d.seq.length).dec.seq[(s.withPass d d.seq.length).pos]? = none := by simp
  rw [step_of_decodes hw h, simulateInstruction_withPass, Out.andThen_assoc]
  simp [State.withPass]

/-- As many steps as the pass yields records are the run of these records. -/
theorem steps_of_yields {stream : List Byte} {d : Decoder} {seq : List Record} (h : d.Yields stream seq) {s : State}
    (hs : s.stream = stream) : steps seq.length (s.withPass d d.seq.length) =
      (simulate seq s).asSteps (d.emitAll seq) (d.emitAll seq).seq.length := by
  induction h generalizing s with
  | nil d => rfl
  | @cons d I rest head tail ih =>
    subst hs
    rw [List.length_cons, steps, step_withPass head]
    cases hI : simulateInstruction I s with
    | next t =>
      rw [simulate_cons_next hI]
      exact ih (simulateInstruction_frame hI).stream
    | fault f => rw [simulate_cons_fault hI]; rfl
    | refused r => rw [simulate_cons_refused hI]; rfl

theorem simulate_keeps_stream {seq : List Record} {s t : State} (h : simulate seq s = .returned t none) :
    t.stream = s.stream := by
  induction seq generalizing s with
  | nil => cases h; rfl
  | cons I rest ih =>
    cases hI : simulateInstruction I s with
    | next u =>
      rw [simulate_cons_next hI] at h
      exact (ih h).trans (simulateInstruction_frame hI).stream
    | fault f => rw [simulate_cons_fault hI] at h; cases h
    | refused r => rw [simulate_cons_refused hI] at h; cases h

/-! ## The whole pass -/

/-- The records of the whole pass are those that the stream yields from the start of a pass. -/
theorem decodePass_yields (stream : List Byte) : Decoder.reset.Yields stream (decodePass stream).seq := by
  obtain ⟨seq, hy, hseq, -⟩ := Decoder.turns_yields stream (stream.length + 1) (d := Decoder.reset) rfl
  rwa [decodePass, hseq]

/-- The decoder with all the records of the pass, before the turn that ends it. -/
def lastDecoder (stream : List Byte) : Decoder := Decoder.reset.emitAll (decodePass stream).seq

theorem lastDecoder_seq (stream : List Byte) : (lastDecoder stream).seq = (decodePass stream).seq :=
  Decoder.emitAll_seq _ _

theorem lastDecoder_status (stream : List Byte) : (lastDecoder stream).status = .Running := Decoder.emitAll_status _ _

/-- A pass that is over was ended by the turn after its last record. -/
theorem turn_lastDecoder {stream : List Byte} (h : (decodePass stream).status ≠ .Running) :
    (lastDecoder stream).turn stream = decodePass stream := by
  obtain ⟨seq, -, hseq, hend⟩ := Decoder.turns_yields stream (stream.length + 1) (d := Decoder.reset) rfl
  rw [lastDecoder, decodePass, hseq]
  exact (hend h).symm

/-- After the last record of a pass that is Done, a step ends the pass. -/
theorem step_lastDecoder_done {t : State} (h : DecodeOk t.stream) :
    step (t.withPass (lastDecoder t.stream) (decodePass t.stream).seq.length) =
      .next (t.withPass (decodePass t.stream) (decodePass t.stream).seq.length) := by
  have hturn := turn_lastDecoder (stream := t.stream) (by rw [h]; exact nofun)
  rw [step_of_turn_done (by simp [lastDecoder_seq]) (lastDecoder_status _), State.withPass_dec, State.withPass_stream,
    hturn]
  · rfl
  · rw [State.withPass_dec, State.withPass_stream, hturn, h]

/-- After the last record of a pass that Failed, a step is refused with its failure. -/
theorem step_lastDecoder_failed {t : State} {f : DecodeFailure} (h : (decodePass t.stream).status = .Failed f) :
    step (t.withPass (lastDecoder t.stream) (decodePass t.stream).seq.length) = .refused (.decodeFailure f) := by
  have hturn := turn_lastDecoder (stream := t.stream) (by rw [h]; exact nofun)
  refine step_of_turn_failed (by simp [lastDecoder_seq]) (lastDecoder_status _) ?_
  rw [State.withPass_dec, State.withPass_stream, hturn, h]

section
variable {s : State} (hdec : s.dec = Decoder.reset) (hpos : s.pos = 0)
include hdec hpos

/-- From the start of a pass, `k` steps are the run of the pass's first `k` records. -/
theorem steps_of_pass {k : Nat} (hk : k ≤ (decodePass s.stream).seq.length) :
    steps k s = (simulate ((decodePass s.stream).seq.take k) s).asSteps
      (Decoder.reset.emitAll ((decodePass s.stream).seq.take k)) k := by
  have hstart : s.withPass Decoder.reset 0 = s := by
    rw [← hdec, ← hpos]
    rfl
  have h := steps_of_yields ((decodePass_yields s.stream).take k) (s := s) rfl
  rwa [Decoder.emitAll_seq, show Decoder.reset.seq = [] from rfl, List.nil_append, List.length_nil, hstart,
    List.length_take_of_le hk] at h

theorem steps_of_whole_pass : steps (decodePass s.stream).seq.length s =
    (simulate (decodePass s.stream).seq s).asSteps (lastDecoder s.stream) (decodePass s.stream).seq.length := by
  have h := steps_of_pass hdec hpos le_rfl
  rwa [List.take_length] at h

/-- Where all the records run, the step after them is one from the last record's state. -/
theorem steps_past_pass {t : State} (ht : simulate (decodePass s.stream).seq s = .returned t none) :
    steps ((decodePass s.stream).seq.length + 1) s =
      step (t.withPass (lastDecoder t.stream) (decodePass t.stream).seq.length) := by
  rw [steps_succ_last, steps_of_whole_pass hdec hpos, ht, simulate_keeps_stream ht]
  rfl

end

/-- Settles O58: the steps run the records that the stream yields, and one step more meets the end of the pass. -/
theorem stepsRefineDecodeThenSimulate : Obligations.StepsRefineDecodeThenSimulate := by
  intro s hdec hpos
  simp only [run_eq_steps]
  refine ⟨fun k t hk ht => ⟨_, Decoder.emitAll_seq Decoder.reset _, ?_⟩, fun t ht hdone => ⟨?_, ?_, rfl⟩,
    fun f hok hfail => ?_, fun t r ht => ?_, simulate_ne_violation (decodePass_yields s.stream).proper s⟩
  · rw [steps_of_pass hdec hpos hk, ht]
    rfl
  · rw [steps_past_pass hdec hpos ht]
    rw [← simulate_keeps_stream ht] at hdone ⊢
    exact step_lastDecoder_done hdone
  · rw [hdone]
    exact nofun
  · obtain ⟨t, ht⟩ := noFailureRecorded_iff.mp hok
    rw [steps_past_pass hdec hpos ht]
    rw [← simulate_keeps_stream ht] at hfail
    exact step_lastDecoder_failed hfail
  · rw [steps_of_whole_pass hdec hpos, ht]
    rfl

end Sys2Proof.Machine
end

section
/-! PROOFS. Family 40_decoder.md, the records: the types and their tags, and the operands that a record's format reads
from the bytes. -/

namespace Sys2Proof.Machine

/-! ## Types and tags -/

/-- The tag numbers the types in the order of their declaration (40_decoder.md R122). -/
theorem ofNat_tag (t : InstrType) : t.tag < 128 ∧ InstrType.ofNat t.tag = t := by
  cases t <;> exact ⟨by decide, rfl⟩

theorem tag_ofNat : ∀ n < 128, (InstrType.ofNat n).tag = n := by decide

theorem tag_injective {t u : InstrType} (h : t.tag = u.tag) : t = u := by
  rw [← (ofNat_tag t).2, ← (ofNat_tag u).2, h]

/-- Settles O7: the types are numbered by their tags, and those of the instructions are read off their rows. -/
theorem typesAreTags0To127 : Obligations.TypesAreTags0To127 := by
  refine ⟨fun t => (ofNat_tag t).1, fun n hn => ⟨InstrType.ofNat n, tag_ofNat n hn, fun u hu => ?_⟩, fun i p h => ?_,
    fun i p h => ?_⟩
  · exact tag_injective (hu.trans (tag_ofNat n hn).symm)
  · exact ⟨type_isSome h, Option.isSome_iff_exists.mpr (exists_record h p)⟩
  · have ht := type_of_refused h
    exact ⟨ht, by rw [Instr.record, ht]⟩

/-! ## The fields of a first byte, read by bit position -/

/-- The type's effective width is the bit w of its first byte (40_decoder.md R129). -/
abbrev HasWidthBit (t : InstrType) : Prop := ∀ b1, effectiveWidth t b1 = bitW b1

theorem effectiveWidth_opW {t : InstrType} {base : Byte} (ht : HasWidthBit t) (h : base &&& 0xFE = base) (w : Bool) :
    effectiveWidth t (opW base w) = w := by
  rw [ht, (match_opW h w).2]

theorem effectiveWidth_opDW {t : InstrType} {base : Byte} (ht : HasWidthBit t) (h : base &&& 0xFC = base)
    (d w : Bool) : effectiveWidth t (opDW base d w) = w := by
  rw [ht, (match_opDW h d w).2.2]

theorem direction_opDW {base : Byte} (h : base &&& 0xFC = base) (d w : Bool) : (opDW base d w).getLsbD 1 = d :=
  (match_opDW h d w).2.1

theorem direction_opW {base : Byte} (h : base &&& 0xFC = base) (w : Bool) : (opW base w).getLsbD 1 = false := by
  revert base w; decide

theorem lowRegOf_of_code {b1 : Byte} {w : Bool} {reg : RegName} (hb : b1Reg b1 = regCode reg)
    (hreg : wfReg w reg = true) (rest : List Byte) : lowRegOf (b1 :: rest) w = .Register reg := by
  rw [lowRegOf, byteOf_zero, show b1.extractLsb' 0 3 = regCode reg from hb, regName_regCode _ _ hreg]

theorem accOf_eq_acc (w : Bool) : accOf w = .Register (acc w) := by cases w <;> rfl

theorem both_direction (c : Prop) [Decidable c] (g e : DataLocation) :
    both (direction (decide c) g e) = if c then (some g, some e) else (some e, some g) := by
  by_cases h : c <;> simp [both, direction, h]

/-! ## The operands that a format reads from an encoding

One lemma per format; the type enters through its format, its effective width and the lists that `operandsFrom` asks
for. -/

theorem rmOf_last (b1 : Byte) (g : BitVec 3) {rm : RMOperand} {w : Bool} (suppress : Bool) (h : wfRM w rm = true) :
    rmOf (b1 :: encRM g rm) w suppress = rmLocation w suppress rm := by
  simpa using rmOf_encRM b1 g rm [] w suppress h

theorem regOf_last (b1 : Byte) {reg : RegName} (rm : RMOperand) {w : Bool} (h : wfReg w reg = true) :
    regOf (b1 :: encRM (regCode reg) rm) w = .Register reg := by
  simpa using regOf_encRM b1 reg rm [] w h

theorem sregOf_last (b1 : Byte) (sr : SegReg) (rm : RMOperand) :
    sregOf (b1 :: encRM (sr.code.setWidth 3) rm) = .Register sr.name := by
  simpa using sregOf_encRM b1 sr rm []

theorem operandsFrom_J8 {t : InstrType} (hf : t.format = .J8) (p : Nat) (b1 disp : Byte) :
    operandsFrom t p [b1, disp] = (some (.JumpLabel ((p : Int) + 2 + disp.toInt)), none) := by
  simp only [operandsFrom, hf]
  rfl

section
variable {t : InstrType} {b1 : Byte} {w : Bool} (p : Nat) (hw : effectiveWidth t b1 = w)
include hw

theorem operandsFrom_RI (hf : t.format = .RI) {reg : RegName} {imm : Word} (hb : b1Reg b1 = regCode reg)
    (hreg : wfReg w reg = true) (hi : wfImm w imm = true) :
    operandsFrom t p (b1 :: encImm w imm) = both (.Register reg, .Immediate imm w false) := by
  simp only [operandsFrom, hf, byteOf_zero, hw, lowRegOf_of_code hb hreg, valueOf_succ b1 _ 0,
    valueOf_encImm w imm hi, both]

theorem operandsFrom_P (hf : t.format = .P) (rest : List Byte) : operandsFrom t p (b1 :: rest) =
    both (direction (decide (t ∈ [InstrType.IN_FIXED, .IN_VAR])) (.Register (acc w))
      (if t ∈ [InstrType.IN_VAR, .OUT_VAR] then .Register .DX else byteImmediate (byteOf rest 0))) := by
  simp only [operandsFrom, hf, byteOf_zero, hw, accOf_eq_acc, both_direction]
  rfl

theorem operandsFrom_AM (hf : t.format = .AM) (addr : Word) : operandsFrom t p (b1 :: encImm true addr) =
    both (direction (decide (t = .MOV_MEM_ACC)) (.Register (acc w)) (.Memory ⟨.DIRECT, addr⟩ w false)) := by
  simp only [operandsFrom, hf, byteOf_zero, hw, accOf_eq_acc, both_direction, valueOf_succ b1 _ 0,
    valueOf_encImm true addr rfl]

theorem operandsFrom_AI (hf : t.format = .AI) {imm : Word} (hi : wfImm w imm = true) :
    operandsFrom t p (b1 :: encImm w imm) = both (.Register (acc w), .Immediate imm w false) := by
  simp only [operandsFrom, hf, byteOf_zero, hw, accOf_eq_acc, valueOf_succ b1 _ 0, valueOf_encImm w imm hi, both]

theorem operandsFrom_M (hf : t.format = .M) (g : BitVec 3) {rm : RMOperand} (hrm : wfRM w rm = true) :
    operandsFrom t p (b1 :: encRM g rm) =
      (some (rmLocation w (decide (t ∈ suppressesMemory)) rm), none) := by
  simp only [operandsFrom, hf, byteOf_zero, hw, rmOf_last b1 g _ hrm]

theorem operandsFrom_MV (hf : t.format = .MV) {v : Bool} (hv : b1.getLsbD 1 = v) (g : BitVec 3) {rm : RMOperand}
    (hrm : wfRM w rm = true) : operandsFrom t p (b1 :: encRM g rm) = both (rmLocation w false rm, shiftCount v) := by
  subst hv
  simp only [operandsFrom, hf, byteOf_zero, hw, rmOf_last b1 g _ hrm]
  rfl

theorem operandsFrom_MRI (hf : t.format = .MRI) (g : BitVec 3) {rm : RMOperand} {imm : Word} {wide : Bool}
    (hwide : immWideOf [b1] w = wide) (hrm : wfRM w rm = true) (hi : wfImm wide imm = true) :
    operandsFrom t p (b1 :: (encRM g rm ++ encImm wide imm)) =
      both (rmLocation w false rm, .Immediate imm wide false) := by
  have hwide' (bs : List Byte) : immWideOf (b1 :: bs) w = wide := hwide
  simp only [operandsFrom, hf, byteOf_zero, hw, rmOf_encRM b1 g rm _ w false hrm, hwide', dispBytesOf_encRM,
    valueOf_after_rm b1 g rm wide imm hi, both]

/-- The types of the format MR that have the reg operand as destination whatever the direction bit. -/
def regIsDestination : List InstrType := [.LEA, .LDS, .LES, .XCHG_RM_REG]

theorem operandsFrom_MR (hf : t.format = .MR) {d : Bool} {reg : RegName} {rm : RMOperand}
    (hd : decide (t ∈ regIsDestination ∨ b1.getLsbD 1 = true) = d) (hreg : wfReg w reg = true)
    (hrm : wfRM w rm = true) : operandsFrom t p (b1 :: encRM (regCode reg) rm) =
      both (direction d (.Register reg) (rmLocation w (decide (t ∈ suppressesMemory)) rm)) := by
  subst hd
  simp only [operandsFrom, hf, byteOf_zero, hw, rmOf_last b1 _ _ hrm, regOf_last b1 rm hreg, both_direction]
  rfl

theorem operandsFrom_MS (hf : t.format = .MS) (sr : SegReg) {rm : RMOperand} (hrm : wfRM w rm = true) :
    operandsFrom t p (b1 :: encRM (sr.code.setWidth 3) rm) =
      both (direction (decide (t = .MOV_RM_SR)) (.Register sr.name) (rmLocation w false rm)) := by
  simp only [operandsFrom, hf, byteOf_zero, hw, rmOf_last b1 _ _ hrm, sregOf_last, both_direction]

end

theorem destination_of_bit {t : InstrType} (ht : t ∉ regIsDestination) {b d : Bool} (hb : b = d) :
    decide (t ∈ regIsDestination ∨ b = true) = d := by
  simp [ht, hb]

/-- The record's operands are those that its type's format reads from the encoding. -/
theorem operandsFrom_encode {i : Instr} {t : InstrType} (ht : i.type = some t) (hwf : i.WellFormed = true) (p : Nat) :
    operandsFrom t p (encode i) = i.operands p := by
  cases i with
  | xlat | lahf | sahf | pushf | popf | aaa | daa | aas | das | cbw | cwd | rep | repne | ret | retf | int3 | into
  | iret | clc | cmc | stc | cld | std | cli | sti | hlt | wait | lock | aam | aad | movs w | cmps w | scas w | lods w
  | stos w => cases ht; rfl
  | pushReg reg | popReg reg | incReg reg | decReg reg =>
    cases ht
    exact congrArg (fun l => (some l, none)) (lowRegOf_of_code (match_reg (by decide) _).2 hwf [])
  | xchgRegAcc reg =>
    cases ht
    exact congrArg (fun l => both (.Register .AX, l)) (lowRegOf_of_code (match_reg (by decide) _).2 hwf [])
  | pushSr sr | popSr sr =>
    cases ht
    cases sr <;> rfl
  | je disp | jl disp | jle disp | jb disp | jbe disp | jp disp | jo disp | js disp | jne disp | jnl disp | jnle disp
  | jnb disp | jnbe disp | jnp disp | jno disp | jns disp | loop disp | loopz disp | loopnz disp | jcxz disp =>
    cases ht; rfl
  | int imm => cases ht; rfl
  | retImm imm | retfImm imm =>
    cases ht
    exact congrArg (fun v => (some (DataLocation.Immediate v true true), none)) (valueOf_encImm true imm rfl)
  | movImmReg w reg imm =>
    obtain ⟨hreg, hi⟩ := Bool.and_eq_true_iff.mp hwf
    cases ht
    obtain ⟨-, hw, hb⟩ := match_wreg (base := 0xB0) (by decide) w (regCode reg)
    refine operandsFrom_RI p ?_ rfl hb hreg hi
    exact hw
  | inFixed w port | outFixed w port | inVar w | outVar w =>
    cases ht
    refine operandsFrom_P p ?_ rfl _
    exact effectiveWidth_opW (fun _ => rfl) (by decide) w
  | movMemAcc w addr | movAccMem w addr =>
    cases ht
    refine operandsFrom_AM p ?_ rfl addr
    exact effectiveWidth_opW (fun _ => rfl) (by decide) w
  | addImmAcc w imm | adcImmAcc w imm | subImmAcc w imm | sbbImmAcc w imm | cmpImmAcc w imm | andImmAcc w imm
  | testImmAcc w imm | orImmAcc w imm | xorImmAcc w imm =>
    cases ht
    refine operandsFrom_AI p ?_ rfl hwf
    exact effectiveWidth_opW (fun _ => rfl) (by decide) w
  | movRmReg d w reg rm | addRmReg d w reg rm | adcRmReg d w reg rm | subRmReg d w reg rm | sbbRmReg d w reg rm
  | cmpRmReg d w reg rm | andRmReg d w reg rm | orRmReg d w reg rm | xorRmReg d w reg rm =>
    obtain ⟨hreg, hrm⟩ := Bool.and_eq_true_iff.mp hwf
    cases ht
    refine operandsFrom_MR p ?_ rfl (destination_of_bit (by decide) ?_) hreg hrm
    · exact effectiveWidth_opDW (fun _ => rfl) (by decide) d w
    · exact direction_opDW (by decide) d w
  | xchgRmReg w reg rm =>
    obtain ⟨hreg, hrm⟩ := Bool.and_eq_true_iff.mp hwf
    cases ht
    refine operandsFrom_MR p ?_ rfl (d := true) rfl hreg hrm
    exact effectiveWidth_opW (fun _ => rfl) (by decide) w
  | testRmReg w reg rm =>
    obtain ⟨hreg, hrm⟩ := Bool.and_eq_true_iff.mp hwf
    cases ht
    refine operandsFrom_MR p ?_ rfl (d := false) (destination_of_bit (by decide) ?_) hreg hrm
    · exact effectiveWidth_opW (fun _ => rfl) (by decide) w
    · exact direction_opW (by decide) w
  | lea reg rm | lds reg rm | les reg rm =>
    obtain ⟨hreg, hrm⟩ := Bool.and_eq_true_iff.mp hwf
    cases ht
    exact operandsFrom_MR p (w := true) rfl rfl (d := true) rfl hreg hrm
  | addImmRm s w rm imm | adcImmRm s w rm imm | subImmRm s w rm imm | sbbImmRm s w rm imm | cmpImmRm s w rm imm
  | andImmRm s w rm imm | orImmRm s w rm imm | xorImmRm s w rm imm =>
    obtain ⟨hrm, hi⟩ := Bool.and_eq_true_iff.mp hwf
    cases ht
    refine operandsFrom_MRI p ?_ rfl _ ?_ hrm hi
    · exact effectiveWidth_opDW (fun _ => rfl) (by decide) s w
    · cases s <;> cases w <;> rfl
  | movImmRm w rm imm | testImmRm w rm imm =>
    obtain ⟨hrm, hi⟩ := Bool.and_eq_true_iff.mp hwf
    cases ht
    refine operandsFrom_MRI p ?_ rfl _ ?_ hrm hi
    · exact effectiveWidth_opW (fun _ => rfl) (by decide) w
    · cases w <;> rfl
  | incRm w rm | decRm w rm | neg w rm | mul w rm | imul w rm | div w rm | idiv w rm | not w rm =>
    cases ht
    refine operandsFrom_M p ?_ rfl _ hwf
    exact effectiveWidth_opW (fun _ => rfl) (by decide) w
  | pushRm rm | popRm rm | callInd rm | jmpInd rm | callFarInd rm | jmpFarInd rm =>
    cases ht
    exact operandsFrom_M p (w := true) rfl rfl _ hwf
  | shl v w rm | shr v w rm | sar v w rm | rol v w rm | ror v w rm | rcl v w rm | rcr v w rm =>
    cases ht
    refine operandsFrom_MV p ?_ rfl ?_ _ hwf
    · exact effectiveWidth_opDW (fun _ => rfl) (by decide) v w
    · exact direction_opDW (by decide) v w
  | movRmSr sr rm | movSrRm sr rm =>
    cases ht
    exact operandsFrom_MS p (w := true) rfl rfl sr hwf
  | callNear | callFar | jmpNear | jmpShort | jmpFar | esc x | segment sr | aamBase imm | aadBase imm => cases ht

/-- Only a string operation's bit w goes into the record's width flag (40_decoder.md R125, R133). -/
theorem wideFlag_iff {i : Instr} {t : InstrType} (ht : i.type = some t) :
    i.wideFlag = true ↔ t ∈ stringOperations ∧ (byteOf (encode i) 0).getLsbD 0 = true := by
  cases i with
  | movs w | cmps w | scas w | lods w | stos w =>
    cases ht
    cases w <;> decide
  | _ => cases ht <;> exact iff_of_false Bool.false_ne_true fun h => absurd h.1 (by decide)

/-- Settles O8: the size is the encoding's length, and each format reads back the fields that were encoded. -/
theorem recordShapeFollowsFormat : Obligations.RecordShapeFollowsFormat := by
  intro i p I hwf hI
  obtain ⟨t, ht, rfl⟩ := record_eq_some.mp hI
  exact ⟨ht, rfl, (encode_length i).symm, wideFlag_iff ht, (operandsFrom_encode ht hwf p).symm⟩

theorem format_of_stringOperations : ∀ t ∈ stringOperations, t.format = .O := by decide

theorem RowKind.Lays.two_bytes_of_J8 {kind : RowKind} {base lo : Byte} {i : Instr} {wf : Bool} {bytes : List Byte}
    (h : kind.Lays base lo i wf bytes) (hf : kind.format = some .J8) : wf = true ∧ ∃ b1 disp, bytes = [b1, disp] := by
  cases h with
  | J8 mk disp => exact ⟨rfl, _, _, rfl⟩
  | _ => cases hf

theorem isRefused_of_type {i : Instr} {t : InstrType} (ht : i.type = some t) : i.isRefused = false := by
  by_contra h
  rw [type_of_refused (by simpa using h)] at ht
  cases ht

/-- An instruction of the format J8 is well formed, and its encoding is a first byte and a displacement. -/
theorem encode_of_J8 {i : Instr} {t : InstrType} (ht : i.type = some t) (hf : t.format = .J8) :
    i.WellFormed = true ∧ ∃ b1 disp, encode i = [b1, disp] := by
  obtain ⟨row, hrow, hl⟩ := lays_of_rowIndex (isRefused_of_type ht)
  have hkind := (sound_of_mem row (List.mem_of_getElem? hrow) _ _ _ hl).format
  rw [ht, Option.map_some, hf] at hkind
  exact RowKind.Lays.two_bytes_of_J8 hl hkind.symm

/-- Settles O9: from the shape of a record of the format J8, whose type is no string operation. -/
theorem jumpRecordsHoldTheirTarget : Obligations.JumpRecordsHoldTheirTarget := by
  rintro i p ⟨t, size, wide, dst, src⟩ hI hf
  have ht := record_type hI
  obtain ⟨hwf, b1, disp, he⟩ := encode_of_J8 ht hf
  obtain ⟨-, -, hsize, hwide, hops⟩ := recordShapeFollowsFormat i p _ hwf hI
  have hw : wide = false := by
    by_contra h
    have hO := format_of_stringOperations t (hwide.mp (by simpa using h)).1
    rw [hO] at hf
    cases hf
  have hn : size = 2 := hsize.trans (congrArg List.length he)
  simp only [he, operandsFrom_J8 hf, Prod.mk.injEq] at hops
  obtain ⟨hdst, hsrc⟩ := hops
  exact ⟨b1, disp, he, by rw [hn, hw, hdst, hsrc]⟩

/-- Settles O10: the nine d forms build their operands by the direction bit, the others in their fixed order. -/
theorem directionBitNamesDestination : Obligations.DirectionBitNamesDestination := by
  intro d w reg q p mk hmk
  refine ⟨?_, rfl, rfl, rfl, rfl, rfl⟩
  simp only [List.mem_cons, List.not_mem_nil, or_false] at hmk
  rcases hmk with rfl | rfl | rfl | rfl | rfl | rfl | rfl | rfl | rfl <;> cases d <;> rfl

end Sys2Proof.Machine
end

section
/-! PROOFS. Family 41_renderer.md: one turn of the renderer, the count of the labels written, and the shape of the
output. -/

namespace Sys2Proof.Machine

/-! ## One turn of the renderer -/

/-- The label that a record's turn writes: the first pending one, once the offset reaches it (41_renderer.md R172). -/
def reachedLabel (reached : Int) (pending : List Int) : Option Int := pending.head?.filter (· ≤ reached)

/-- The line of a label (41_renderer.md R172). -/
def labelLine (l : Int) : String := labelText l ++ ":"

theorem reachedLabel_of_le {reached l : Int} {pending : List Int} (h : pending.head? = some l) (hl : l ≤ reached) :
    reachedLabel reached pending = some l := by
  rw [reachedLabel, h, Option.filter_some_pos (by simpa using hl)]

theorem reachedLabel_of_lt {reached : Int} {pending : List Int} (h : ∀ l, pending.head? = some l → reached < l) :
    reachedLabel reached pending = none :=
  Option.filter_eq_none_iff.mpr fun l hl => by simpa using h l hl

/-- A turn writes no more labels than are pending. -/
theorem reachedLabel_length_le (reached : Int) (pending : List Int) :
    (reachedLabel reached pending).toList.length ≤ pending.length := by
  cases pending with
  | nil => exact Nat.le_refl 0
  | cons l more => exact Option.length_toList_le.trans (Nat.succ_pos _)

/-- A turn of the renderer: the record's line, the line of the label it reaches, and the rest without that label
(41_renderer.md R172). -/
theorem renderLines_cons (offset : Int) (labels : List Int) (I : Record) (rest : List Record) :
    renderLines offset labels (I :: rest) =
      recordText I :: ((reachedLabel (offset + I.size) labels).toList.map labelLine ++
        renderLines (offset + I.size) (labels.drop (reachedLabel (offset + I.size) labels).toList.length) rest) := by
  cases labels with
  | nil => rfl
  | cons l more =>
    by_cases hl : l ≤ offset + I.size
    · rw [reachedLabel_of_le rfl hl]
      exact if_pos hl
    · rw [reachedLabel_of_lt (by simpa using hl)]
      exact if_neg hl

/-! ## The count of the labels written -/

/-- How many labels stand in the output of a list of records. -/
def labelsWritten (offset : Int) (labels : List Int) : List Record → Nat
  | [] => 0
  | I :: rest =>
    (reachedLabel (offset + I.size) labels).toList.length +
      labelsWritten (offset + I.size) (labels.drop (reachedLabel (offset + I.size) labels).toList.length) rest

theorem length_renderLines (seq : List Record) (offset : Int) (labels : List Int) :
    (renderLines offset labels seq).length = seq.length + labelsWritten offset labels seq := by
  induction seq generalizing offset labels with
  | nil => rfl
  | cons I rest ih =>
    simp only [renderLines_cons, labelsWritten, List.length_cons, List.length_append, List.length_map, ih]
    omega

theorem labelsWritten_le_records (seq : List Record) (offset : Int) (labels : List Int) :
    labelsWritten offset labels seq ≤ seq.length := by
  induction seq generalizing offset labels with
  | nil => exact Nat.le_refl 0
  | cons I rest ih =>
    rw [labelsWritten, List.length_cons, Nat.add_comm]
    exact Nat.add_le_add (ih _ _) Option.length_toList_le

theorem labelsWritten_le_labels (seq : List Record) (offset : Int) (labels : List Int) :
    labelsWritten offset labels seq ≤ labels.length := by
  induction seq generalizing offset labels with
  | nil => exact Nat.zero_le _
  | cons I rest ih =>
    have hturn := reachedLabel_length_le (offset + I.size) labels
    have hrest := ih (offset + I.size) (labels.drop (reachedLabel (offset + I.size) labels).toList.length)
    rw [List.length_drop] at hrest
    rw [labelsWritten]
    omega

/-! ## One record more -/

theorem totalSize_cons (I : Record) (rest : List Record) : totalSize (I :: rest) = I.size + totalSize rest := by
  simp [totalSize]

/-- The label that a record after the list `seq` reaches. -/
abbrev nextLabel (offset : Int) (labels : List Int) (seq : List Record) (I : Record) : Option Int :=
  reachedLabel (offset + totalSize (seq ++ [I])) (labels.drop (labelsWritten offset labels seq))

theorem nextLabel_nil (offset : Int) (labels : List Int) (I : Record) :
    nextLabel offset labels [] I = reachedLabel (offset + I.size) labels := by
  rw [nextLabel, List.nil_append, totalSize_singleton, labelsWritten, List.drop_zero]

theorem nextLabel_cons (offset : Int) (labels : List Int) (J : Record) (seq : List Record) (I : Record) :
    nextLabel offset labels (J :: seq) I =
      nextLabel (offset + J.size) (labels.drop (reachedLabel (offset + J.size) labels).toList.length) seq I := by
  rw [nextLabel, nextLabel, labelsWritten, List.drop_drop, List.cons_append, totalSize_cons, Nat.cast_add, add_assoc]

theorem labelsWritten_append_singleton (seq : List Record) (I : Record) (offset : Int) (labels : List Int) :
    labelsWritten offset labels (seq ++ [I]) =
      labelsWritten offset labels seq + (nextLabel offset labels seq I).toList.length := by
  induction seq generalizing offset labels with
  | nil => simp [labelsWritten, nextLabel_nil]
  | cons J seq ih => rw [List.cons_append, labelsWritten, ih, nextLabel_cons, labelsWritten, Nat.add_assoc]

theorem renderLines_append_singleton (seq : List Record) (I : Record) (offset : Int) (labels : List Int) :
    renderLines offset labels (seq ++ [I]) =
      renderLines offset labels seq ++ recordText I :: (nextLabel offset labels seq I).toList.map labelLine := by
  induction seq generalizing offset labels with
  | nil => simp [renderLines, renderLines_cons, nextLabel_nil]
  | cons J seq ih =>
    rw [List.cons_append, renderLines_cons, ih, nextLabel_cons, renderLines_cons, List.cons_append, List.append_assoc]

theorem render_append_singleton (seq : List Record) (I : Record) (labels : List Int) :
    render (seq ++ [I]) labels =
      render seq labels ++ recordText I :: (nextLabel 0 labels seq I).toList.map labelLine := by
  rw [render, renderLines_append_singleton, render, List.cons_append]

/-! ## The shape of the output -/

theorem renderLines_nil_labels (seq : List Record) (offset : Int) : renderLines offset [] seq = seq.map recordText := by
  induction seq generalizing offset with
  | nil => rfl
  | cons I rest ih => exact congrArg (recordText I :: ·) (ih _)

theorem records_sublist_renderLines (seq : List Record) (offset : Int) (labels : List Int) :
    List.Sublist (seq.map recordText) (renderLines offset labels seq) := by
  induction seq generalizing offset labels with
  | nil => exact .slnil
  | cons I rest ih =>
    rw [renderLines_cons, List.map_cons]
    exact .cons_cons _ ((ih _ _).trans (List.sublist_append_right _ _))

/-- Settles O60: `k n` is the count of the labels that the first `n` records write. -/
theorem renderShape : Obligations.RenderShape := by
  refine ⟨fun seq labels => ⟨fun n => labelsWritten 0 labels (seq.take n), rfl, rfl, fun n I hI => ?_⟩,
    fun seq => congrArg _ (renderLines_nil_labels seq 0),
    fun seq labels => ⟨.cons_cons _ (records_sublist_renderLines seq 0 labels), ?_⟩⟩
  · simp only [List.take_add_one, hI, Option.toList_some, labelsWritten_append_singleton,
      render_append_singleton]
    refine ⟨fun l hl hle => ?_, fun hlt => ?_⟩
    · have hnext : nextLabel 0 labels (seq.take n) I = some l :=
        reachedLabel_of_le (List.head?_drop.trans hl) (by simpa using hle)
      rw [hnext]
      exact ⟨rfl, rfl⟩
    · have hnext : nextLabel 0 labels (seq.take n) I = none :=
        reachedLabel_of_lt fun l hl => by simpa using hlt l (List.head?_drop.symm.trans hl)
      rw [hnext]
      exact ⟨rfl, rfl⟩
  · have hrecords := labelsWritten_le_records seq 0 labels
    have hlabels := labelsWritten_le_labels seq 0 labels
    rw [render, List.length_cons, length_renderLines]
    omega

end Sys2Proof.Machine
end

section
/-! PROOFS. Family 42_execution_unit.md: operand access, results and flags, the records that execute and those that
fail, the run over a decoded list, and the host's register calls. -/

namespace Sys2Proof.Machine

/-! ## Widths, operands and the host's registers -/

/-- Reduction to the operation width is a remainder (00_scope.md R10). -/
theorem truncTo_toNat (wide : Bool) (v : Word) : (truncTo wide v).toNat = v.toNat % 2 ^ (if wide then 16 else 8) := by
  cases wide with
  | false => simp only [truncTo, Bool.false_eq_true, if_false, BitVec.toNat_setWidth]; omega
  | true => exact (Nat.mod_eq_of_lt v.isLt).symm

/-- Settles O20: each location has its own answer, and the low byte of an immediate is its value at 8 bits. -/
theorem operandAccessByLocation : Obligations.OperandAccessByLocation := by
  intro regs I wide v x r ea a b t
  refine ⟨rfl, ?_, rfl, rfl, rfl, rfl, rfl, rfl⟩
  rw [readLoc_immediate, truncTo, setWidth_eq_lowByte]

/-- An integer held as a word and reduced to a width is the integer modulo that width (42_execution_unit.md R220). -/
theorem truncTo_ofInt_toNat (wide : Bool) (value : Int) :
    ((truncTo wide (BitVec.ofInt 16 value)).toNat : Int) = value % (if wide then 65536 else 256) := by
  rw [truncTo_toNat, BitVec.toNat_ofInt]
  split <;> omega

/-- Settles O17: the register reads back the reduced value, and the write leaves every name alone that shares no byte
with it. -/
theorem hostRegisterAccess : Obligations.HostRegisterAccess := by
  intro name value s
  refine ⟨?_, fun q hq => readReg_writeReg_other _ _ _ _ hq, rfl, rfl, rfl, rfl, rfl, rfl, rfl⟩
  rw [getRegister_setRegister, truncTo_ofInt_toNat]
  cases name.isByte <;> rfl

/-! ## Results and flags -/

/-- Settles O21: a word operation wraps at 2^16, which the reduction to the operation width does not see. -/
theorem addAndSubtractWrap : Obligations.AddAndSubtractWrap := by
  intro wide a b _ _
  rw [aluResult, aluResult, truncTo_toNat, truncTo_toNat, AluOp.apply, AluOp.apply, BitVec.toNat_add, BitVec.toNat_sub]
  split <;> omega

/-- The count of the set bits, as the size of the set of their places. -/
theorem popcount_eq_card (r : Word) : popcount r = ((Finset.range 16).filter fun k => r.getLsbD k = true).card := by
  rw [popcount, List.countP_eq_length_filter, Finset.card_def, Finset.filter_val, Finset.range_val, Multiset.range,
    Multiset.filter_coe, Multiset.coe_card]
  simp only [Bool.decide_eq_true]

/-- Settles O22: the flag functions by their definitions, the parity by the set of the set bits. -/
theorem flagFunctionsOfAResult : Obligations.FlagFunctionsOfAResult := by
  refine ⟨fun r => ⟨rfl, rfl, rfl, ?_⟩, by decide, fun wide r F => ⟨rfl, rfl, rfl⟩, fun I s t h => ?_⟩
  · rw [parityFlag, popcount_eq_card]
    rfl
  · rw [simCmp_cases h]
    rfl

/-! ## The two bases of the flags of an 8-bit result -/

/-- Two runs that start with one value, which may be used, go on alike. -/
theorem SameOutcome.andThen_of_next {R : State → State → Prop} {α : Type} (o : Out α) {k k' : α → Out State}
    (h : ∀ a, o = .next a → SameOutcome R (k a) (k' a)) : SameOutcome R (o.andThen k) (o.andThen k') := by
  cases o with
  | next a => exact h a rfl
  | fault f => rfl
  | refused r => rfl

/-- The state with the parameter BYTE_RESULT_BASIS replaced (00_scope.md R8). -/
def State.withBasis (s : State) (basis : ByteResultBasis) : State :=
  { s with params := { s.params with byteResultBasis := basis } }

/-- At 16 bits the two bases are one (42_execution_unit.md R206). -/
theorem flagBasis_wide (basis : ByteResultBasis) (op : AluOp) (a b : Word) (src : DataLocation) :
    flagBasis basis op true a b src = (aluResult op true a b, true) := by
  cases basis <;> rfl

/-- What the result of a record is under two bases: equal but for the flags of an 8-bit destination, and for the basis
itself (42_execution_unit.md R206). -/
structure EqualUpToByteFlags (I : Record) (t u : State) : Prop where
  regs : u.ctx.regs = t.ctx.regs
  ip : u.ctx.ip = t.ctx.ip
  mem : u.ctx.mem = t.ctx.mem
  dec : u.dec = t.dec
  pos : u.pos = t.pos
  stream : u.stream = t.stream
  flags : ∀ r, I.dst = some (.Register r) → r.isByte = false → u.ctx.F = t.ctx.F

section
variable (I : Record) (s : State) (basis basis' : ByteResultBasis)

theorem simMove_basis :
    SameOutcome (EqualUpToByteFlags I) (simMove I (s.withBasis basis)) (simMove I (s.withBasis basis')) :=
  .noMemory I <| .andThen_same _ fun (_, _) => .andThen_same _ fun _ => .andThen_same _ fun _ =>
    ⟨rfl, rfl, rfl, rfl, rfl, rfl, fun _ _ _ => rfl⟩

theorem simCmp_basis :
    SameOutcome (EqualUpToByteFlags I) (simCmp I (s.withBasis basis)) (simCmp I (s.withBasis basis')) :=
  .noMemory I <| .andThen_same _ fun (_, _) => .andThen_same _ fun _ => .andThen_same _ fun _ =>
    ⟨rfl, rfl, rfl, rfl, rfl, rfl, fun _ _ _ => rfl⟩

theorem simAlu_basis (op : AluOp) :
    SameOutcome (EqualUpToByteFlags I) (simAlu op I (s.withBasis basis)) (simAlu op I (s.withBasis basis')) := by
  refine .noMemory I <| .andThen_of_next _ fun (dst, src) hds => .andThen_same _ fun a => .andThen_same _ fun b =>
    .andThen_same _ fun regs => ⟨rfl, rfl, rfl, rfl, rfl, rfl, fun r hr hb => ?_⟩
  obtain ⟨hd, -⟩ := operandsOf_eq_next hds
  obtain rfl : dst = .Register r := Option.some.inj (hd.symm.trans hr)
  have hw : locWide (.Register r) = true := by simp [hb]
  simp only [hw, State.advance_ctx_F, State.withFlags_ctx_F, flagBasis_wide]
  rfl

theorem simulateInstruction_basis : SameOutcome (EqualUpToByteFlags I)
    (simulateInstruction I (s.withBasis basis)) (simulateInstruction I (s.withBasis basis')) := by
  unfold simulateInstruction
  cases I.type.execOp with
  | none => rfl
  | some op =>
    cases op with
    | copy => exact simMove_basis I s basis basis'
    | alu op => exact simAlu_basis I s basis basis' op
    | compare => exact simCmp_basis I s basis basis'

end

/-- Settles O23: only the flags of ADD and SUB read the basis, and at 16 bits they do not either. -/
theorem byteBasesDifferInFlagsOnly : Obligations.ByteBasesDifferInFlagsOnly := by
  intro I s
  exact (simulateInstruction_basis I s .Truncated .Wide16).mono fun t u h =>
    ⟨h.regs, h.ip, h.mem, h.dec, h.pos, h.stream, h.flags⟩

/-! ## Records and instructions -/

/-- Settles O33: constructor by constructor, the meaning applies the record's operation to the record. -/
theorem meaningIsTheRecordsExecution : Obligations.MeaningIsTheRecordsExecution :=
  fun _ s _ h => exec_eq_simulateInstruction h s

theorem exec_ne_fault (i : Instr) (s : State) (f : Fault) : exec i s ≠ .fault f := by
  cases hI : i.record 0 with
  | some I =>
    rw [exec_eq_simulateInstruction hI]
    exact simulateInstruction_ne_fault_of_proper (proper_of_record hI) s f
  | none =>
    obtain ⟨r, hr, -⟩ := exec_refused_of_no_record hI (s := s) rfl
    rw [hr]
    exact nofun

/-- Settles O43: the decoder's records violate no contract, and an instruction without one is refused. -/
theorem decodedInstructionsNeverFault : Obligations.DecodedInstructionsNeverFault :=
  ⟨exec_ne_fault, fun _ _ _ s f h => simulateInstruction_ne_fault_of_proper (proper_of_record h) s f⟩

/-! ## Records that fail -/

theorem execOp_eq_none {t : InstrType}
    (h : t ∉ [InstrType.MOV_IMM_REG, .MOV_RM_REG, .MOV_RM_SR, .MOV_SR_RM, .ADD_RM_REG, .ADD_IMM_RM, .SUB_RM_REG,
      .SUB_IMM_RM, .CMP_RM_REG, .CMP_IMM_RM]) : t.execOp = none := by
  cases hop : t.execOp with
  | none => rfl
  | some op => exact absurd (supportedSet_types _ (mem_supportedSet_of_execOp hop)) h

theorem simulateInstruction_of_unsupported {I : Record} (h : I.type.execOp = none) (s : State) :
    simulateInstruction I s = .refused (.simulationFailure (.NotImplemented I.type.mnemonic I.type.tag)) := by
  rw [simulateInstruction, h]
  rfl

theorem simulateInstruction_of_execOp {I : Record} {op : ExecOp} (h : I.type.execOp = some op) (s : State) :
    simulateInstruction I s = op.run I s := by
  rw [simulateInstruction, h]

/-- Settles O34: a type outside the supported set has no operation, and a run stops at its first refusal. -/
theorem unsupportedTypesFail : Obligations.UnsupportedTypesFail := by
  refine ⟨fun I s h => ?_, fun s => rfl⟩
  have hI := simulateInstruction_of_unsupported (execOp_eq_none h) s
  exact ⟨hI, simulate_cons_refused hI⟩

/-- All three operations begin with the check for a memory operand (42_execution_unit.md R198, check 2). -/
theorem ExecOp.run_of_memory (op : ExecOp) {I : Record} (h : I.hasMemory = true) (s : State) :
    op.run I s = .refused (.simulationFailure (.MemoryOperand I)) := by
  cases op <;> exact if_pos h

theorem simulateInstruction_of_memory {I : Record} (hop : I.type.execOp.isSome = true) (h : I.hasMemory = true)
    (s : State) : simulateInstruction I s = .refused (.simulationFailure (.MemoryOperand I)) := by
  obtain ⟨op, hop⟩ := Option.isSome_iff_exists.mp hop
  rw [simulateInstruction_of_execOp hop, op.run_of_memory h]

theorem step_keeps_mem {s t : State} (h : step s = .next t) : t.ctx.mem = s.ctx.mem := by
  obtain ⟨I, u, -, hu, rfl⟩ | ⟨-, -, rfl⟩ | ⟨-, -, -, rfl⟩ | ⟨i, rest, u, -, -, -, hu, rfl⟩ := step_cases h
  · exact (simulateInstruction_frame hu).mem
  · rfl
  · rfl
  · rw [State.emitted_ctx]
    exact (exec_frame hu).mem

/-- Settles O35: the state with another memory agrees with the first on all that a step reads. -/
theorem memoryOperandsFailAndMemoryIsUntouched : Obligations.MemoryOperandsFailAndMemoryIsUntouched := by
  refine ⟨fun I s hop hm => simulateInstruction_of_memory hop hm s, fun s t => step_keeps_mem, fun s m => ?_⟩
  have agree : AgreeOnRead s (s.withMem m) := ⟨rfl, rfl, rfl, rfl, rfl⟩
  refine (step_alike agree).mono fun t u h => ?_
  exact State.eq_of_fields h.regs (h.flags rfl) (sub_left_inj.mp h.ip) h.mem' h.dec h.pos h.stream h.params

theorem exec_of_memory {i : Instr} {p : Nat} {I : Record} (h : i.record p = some I)
    (hop : I.type.execOp.isSome = true) (hm : I.hasMemory = true) (s : State) :
    exec i s = .refused (.simulationFailure (.MemoryOperand I)) := by
  rw [exec_eq_simulateInstruction h, simulateInstruction_of_memory hop hm]

/-- A memory operand against a register, in either order. -/
theorem hasMemory_of_direction (t : InstrType) (n : Nat) (d w : Bool) (reg : RegName) (ea : AddressCalc) :
    (twoOperandRecord t n (direction d (.Register reg) (rmLocation w false (.mem ea)))).hasMemory = true := by
  cases d <;> rfl

/-- Settles O32: each of the nine forms has a record of a supported type with a memory operand. -/
theorem memoryFormsStop : Obligations.MemoryFormsStop := by
  intro d e w reg sr ea imm s i hi
  have stops : ∀ {I : Record}, i.record s.dec.cursor = some I → I.type.execOp.isSome = true → I.hasMemory = true →
      ∃ I, i.record s.dec.cursor = some I ∧ exec i s = .refused (.simulationFailure (.MemoryOperand I)) :=
    fun hI hop hm => ⟨_, hI, exec_of_memory hI hop hm s⟩
  simp only [List.mem_cons, List.not_mem_nil, or_false] at hi
  obtain rfl | rfl | rfl | rfl | rfl | rfl | rfl | rfl | rfl := hi
  · exact stops rfl rfl (hasMemory_of_direction _ _ d w reg ea)
  · exact stops rfl rfl rfl
  · exact stops rfl rfl rfl
  · exact stops rfl rfl (hasMemory_of_direction _ _ d w reg ea)
  · exact stops rfl rfl rfl
  · exact stops rfl rfl (hasMemory_of_direction _ _ d w reg ea)
  · exact stops rfl rfl rfl
  · exact stops rfl rfl (hasMemory_of_direction _ _ d w reg ea)
  · exact stops rfl rfl rfl

/-- All three operations need both operands, before they look at either (42_execution_unit.md R222; log 14). -/
theorem ExecOp.run_of_missing (op : ExecOp) {I : Record} (hm : I.hasMemory = false)
    (h : operandsOf I = .fault .MissingOperand) (s : State) : op.run I s = .fault .MissingOperand := by
  cases op <;> simp [ExecOp.run, simMove, simAlu, simCmp, noMemory, hm, h]

theorem operandsOf_missing {I : Record} (h : I.dst = none ∨ I.src = none) :
    operandsOf I = .fault .MissingOperand := by
  unfold operandsOf
  split
  · simp_all
  · rfl

/-- Settles O44: three records evaluated, and no operation without both operands. -/
theorem handBuiltRecordsViolateTheContract : Obligations.HandBuiltRecordsViolateTheContract := by
  refine fun s n wide r v a b t => ⟨rfl, rfl, rfl, fun I hop hm hI => ?_⟩
  obtain ⟨op, hop⟩ := Option.isSome_iff_exists.mp hop
  rw [simulateInstruction_of_execOp hop, op.run_of_missing hm (operandsOf_missing hI)]

/-! ## The flags that are never set -/

/-- CF, AF and OF have the same values in both contexts (42_execution_unit.md R196). -/
abbrev CarryFlagsKept (c c' : Context) : Prop := c'.F.CF = c.F.CF ∧ c'.F.AF = c.F.AF ∧ c'.F.OF = c.F.OF

/-- In the supported set, SUB and CMP are the operations that clear the flags. -/
theorem supportedSet_clears : ∀ p ∈ supportedSet,
    p.1 ∈ [InstrType.SUB_RM_REG, .SUB_IMM_RM, .CMP_RM_REG, .CMP_IMM_RM] ↔ p.2 = .alu .sub ∨ p.2 = .compare := by
  decide

theorem ExecOp.run_clears {op : ExecOp} {I : Record} {s t : State} (hop : op = .alu .sub ∨ op = .compare)
    (h : op.run I s = .next t) : FlagsClean t.ctx := by
  obtain rfl | rfl := hop
  · obtain ⟨r, src, -, -, rfl⟩ := simAlu_cases h
    exact ⟨rfl, rfl, rfl⟩
  · obtain rfl := simCmp_cases h
    exact ⟨rfl, rfl, rfl⟩

theorem ExecOp.run_keeps_carry {op : ExecOp} {I : Record} {s t : State} (hop : ¬ (op = .alu .sub ∨ op = .compare))
    (h : op.run I s = .next t) : CarryFlagsKept s.ctx t.ctx := by
  match op with
  | .copy => exact ⟨by rw [simMove_keeps_flags h], by rw [simMove_keeps_flags h], by rw [simMove_keeps_flags h]⟩
  | .alu .add =>
    obtain ⟨r, src, -, -, rfl⟩ := simAlu_cases h
    exact ⟨rfl, rfl, rfl⟩
  | .alu .sub | .compare => simp at hop

theorem step_keeps_flagsClean {s t : State} (hF : FlagsClean s.ctx) (h : step s = .next t) : FlagsClean t.ctx := by
  obtain ⟨I, u, -, hu, rfl⟩ | ⟨-, -, rfl⟩ | ⟨-, -, -, rfl⟩ | ⟨i, rest, u, -, -, hd, hu, rfl⟩ := step_cases h
  · exact (simulateInstruction_keeps_flagsClean hu hF :)
  · exact hF
  · exact hF
  · obtain ⟨I, hI⟩ := record_of_decode hd s.dec.cursor
    rw [exec_eq_simulateInstruction hI] at hu
    rw [State.emitted_ctx]
    exact simulateInstruction_keeps_flagsClean hu hF

/-- Settles O45: a completed record's type fixes whether its operation clears the three flags or keeps them. -/
theorem carryFlagsNeverSet : Obligations.CarryFlagsNeverSet := by
  refine ⟨⟨rfl, rfl, rfl⟩, fun I s t h => ?_, fun _ _ _ => rfl, fun s t => step_keeps_flagsClean, fun _ _ _ hF => hF⟩
  obtain ⟨op, hop, hrun⟩ := simulateInstruction_cases h
  have hclears := supportedSet_clears _ (mem_supportedSet_of_execOp hop)
  exact ⟨fun hI => ExecOp.run_clears (hclears.mp hI) hrun,
    fun hI => ExecOp.run_keeps_carry (fun hc => hI (hclears.mpr hc)) hrun⟩

/-! ## Steps -/

theorem step_of_waiting {s : State} {I : Record} (h : s.dec.seq[s.pos]? = some I) :
    step s = (simulateInstruction I s).andThen fun t => .next { t with pos := t.pos + 1 } := by
  simp only [step, h]

/-- Settles O53: the waiting record selects the step's first branch. -/
theorem stepRunsTheWaitingRecord : Obligations.StepRunsTheWaitingRecord := by
  intro s I h
  rw [step_of_waiting h]
  cases simulateInstruction I s <;> rfl

/-- A step without a waiting record is no contract violation: what it decodes has a proper record. -/
theorem step_ne_fault_of_none_waiting {s : State} (hw : s.dec.seq[s.pos]? = none) (f : Fault) :
    step s ≠ .fault f := by
  unfold step
  rw [hw]
  cases s.dec.status with
  | Done => exact nofun
  | Failed g => exact nofun
  | Running =>
    intro h
    change stepDecode s = .fault f at h
    unfold stepDecode at h
    split at h
    · cases h
    · cases h
    · obtain h | ⟨t, -, h⟩ := Out.andThen_eq_fault.mp h
      · exact exec_ne_fault _ s f h
      · cases h

/-- Every record that was decoded from a stream is one that the decoder builds. -/
theorem DecodedFrom.proper {stream : List Byte} {seq : List Record} (h : DecodedFrom stream seq) {k : Nat} {I : Record}
    (hI : seq[k]? = some I) : I.Proper := by
  obtain ⟨i, rest, -, hr⟩ := h k I hI
  exact proper_of_record hr

/-- Settles O57: the waiting record comes from the stream, or none waits. -/
theorem stepNeverFaultsUnderTheInvariant : Obligations.StepNeverFaultsUnderTheInvariant := by
  intro s f hs
  cases hw : s.dec.seq[s.pos]? with
  | none => exact step_ne_fault_of_none_waiting hw f
  | some I =>
    rw [step_of_waiting hw]
    intro h
    obtain h | ⟨t, -, h⟩ := Out.andThen_eq_fault.mp h
    · exact simulateInstruction_ne_fault_of_proper (DecodedFrom.proper hs.decoded hw) s f h
    · cases h

/-! ## The run of a list decoded ahead -/

/-- A step where a record waits, under any pass: the record runs, and the run moves one record on. -/
theorem step_withPass_of_waiting {s : State} {d : Decoder} {n : Nat} {I : Record} (h : d.seq[n]? = some I) :
    step (s.withPass d n) = (simulateInstruction I s).andThen fun t => .next (t.withPass d (n + 1)) := by
  rw [step_of_waiting (I := I) (by simpa using h), simulateInstruction_withPass, Out.andThen_assoc]
  simp [State.withPass]

/-- As many steps as records wait are the run of these records. -/
theorem steps_of_waiting {d : Decoder} (past rest : List Record) (hd : d.seq = past ++ rest) (s : State) :
    steps rest.length (s.withPass d past.length) = (simulate rest s).asSteps d d.seq.length := by
  induction rest generalizing past s with
  | nil =>
    rw [hd, List.append_nil]
    rfl
  | cons I rest ih =>
    have hwait : d.seq[past.length]? = some I := by simp [hd]
    rw [List.length_cons, steps, step_withPass_of_waiting hwait]
    cases hI : simulateInstruction I s with
    | next t =>
      rw [simulate_cons_next hI, Out.andThen_next]
      simpa using ih (past ++ [I]) (by simp [hd]) t
    | fault f => rw [simulate_cons_fault hI]; rfl
    | refused r => rw [simulate_cons_refused hI]; rfl

/-- What every completed record keeps, a run keeps (42_execution_unit.md R216). -/
theorem simulate_keeps {α : Type} (field : State → α)
    (kept : ∀ {I s t}, simulateInstruction I s = .next t → field t = field s) {seq : List Record} {s t : State}
    {r : Option Refusal} (h : simulate seq s = .returned t r) : field t = field s := by
  induction seq generalizing s with
  | nil => cases h; rfl
  | cons I rest ih =>
    cases hI : simulateInstruction I s with
    | next u =>
      rw [simulate_cons_next hI] at h
      exact (ih h).trans (kept hI)
    | fault f => rw [simulate_cons_fault hI] at h; cases h
    | refused r => rw [simulate_cons_refused hI] at h; cases h; rfl

theorem simulate_keeps_dec {seq : List Record} {s t : State} {r : Option Refusal}
    (h : simulate seq s = .returned t r) : t.dec = s.dec :=
  simulate_keeps (·.dec) (fun h => (simulateInstruction_frame h).dec) h

theorem noFailureRecorded_of_asSteps {r : RunResult} {d : Decoder} {n : Nat} {u : State}
    (h : r.asSteps d n = .next u) : NoFailureRecorded r := by
  rcases r with ⟨t, _ | f⟩ | f <;> cases h
  rfl

/-- From position 0, as many steps as the decoded list has records are the run of the list. -/
theorem steps_of_decoded_list {s : State} (hpos : s.pos = 0) :
    steps s.dec.seq.length s = (simulate s.dec.seq s).asSteps s.dec s.dec.seq.length := by
  have hstart : s.withPass s.dec 0 = s := by
    rw [← hpos]
    rfl
  simpa only [List.length_nil, hstart] using steps_of_waiting (d := s.dec) [] s.dec.seq rfl s

/-- Settles O59: the steps are the run of the list, which leaves the pass alone and the position at the list's end. -/
theorem stepsOfADecodedList : Obligations.StepsOfADecodedList := by
  intro s hpos
  simp only [run_eq_steps, steps_of_decoded_list hpos]
  refine ⟨fun t ht => ?_, fun t r ht => ?_, fun f hf => ?_, fun hover => ⟨fun hok => ?_, fun ⟨u, hu, _⟩ => ?_⟩⟩
  · rw [ht, ← simulate_keeps_dec ht]
    rfl
  · rw [ht]
    rfl
  · rw [hf]
    rfl
  · obtain ⟨t, ht⟩ := noFailureRecorded_iff.mp hok
    exact ⟨t.withPass s.dec s.dec.seq.length, by rw [ht]; rfl, hover, rfl⟩
  · exact noFailureRecorded_of_asSteps hu

end Sys2Proof.Machine
end

section
/-! PROOFS. Family 43_data_transfer.md: the four types that copy, and those that are not simulated. -/

namespace Sys2Proof.Machine

/-! ## Copies -/

theorem isByte_of_wfReg {w : Bool} {r : RegName} (h : wfReg w r = true) : r.isByte = !w := by
  simp only [wfReg, Bool.and_eq_true, beq_iff_eq] at h
  exact h.2

theorem isByte_segReg_name (sr : SegReg) : sr.name.isByte = false := by cases sr <;> rfl

section
variable {I : Record} {r : RegName} {src : DataLocation} {v : Word} {s : State}
  (hdst : I.dst = some (.Register r)) (hsrc : I.src = some src) (hread : readLoc s.ctx.regs I src (!r.isByte) = .next v)
include hdst hsrc hread

/-- A location that answers a value is not in memory. -/
theorem hasMemory_of_read : I.hasMemory = false := by
  rw [Record.hasMemory, hdst, hsrc]
  obtain ⟨q, rfl, -⟩ | ⟨x, a, b, rfl, -⟩ := readLoc_eq_next hread <;> rfl

/-- MOV into a register completes when its source can be read (42_execution_unit.md R198). -/
theorem simMove_of_read :
    simMove I s = .next ((s.withRegs (writeReg s.ctx.regs r v)).advance I.size) := by
  simp [simMove, noMemory, hasMemory_of_read hdst hsrc hread, operandsOf, hdst, hsrc, hread]

/-- An instruction whose record is a MOV into a register completes: the register reads the source's value at its own
width, and nothing else changes but ip (43_data_transfer.md R230, R232, R235, R236). -/
theorem exec_copies {i : Instr} {p : Nat} (hrec : i.record p = some I) (hop : I.type.execOp = some .copy) :
    ∃ t, exec i s = .next t ∧ readReg t.ctx.regs r = truncTo (!r.isByte) v ∧ RegistersKeptBut r s t ∧
      t.ctx.F = s.ctx.F ∧ Frame i.size s t := by
  have hmove := simMove_of_read hdst hsrc hread
  have hexec : exec i s = simMove I s := by
    rw [exec_eq_simulateInstruction hrec, simulateInstruction_of_execOp hop, ExecOp.run]
  exact ⟨_, hexec.trans hmove, readReg_writeReg_same _ _ _, fun q hq => readReg_writeReg_other _ _ _ _ hq,
    simMove_keeps_flags hmove, exec_frame (hexec.trans hmove)⟩

end

/-- A MOV between two registers of one width copies the value as it is. -/
theorem exec_copies_register {i : Instr} {p : Nat} {I : Record} {r q : RegName} (s : State)
    (hrec : i.record p = some I) (hop : I.type.execOp = some .copy) (hdst : I.dst = some (.Register r))
    (hsrc : I.src = some (.Register q)) (hwidth : q.isByte = r.isByte) :
    ∃ t, exec i s = .next t ∧ readReg t.ctx.regs r = readReg s.ctx.regs q ∧ RegistersKeptBut r s t ∧
      t.ctx.F = s.ctx.F ∧ Frame i.size s t := by
  have h := exec_copies hdst hsrc (readLoc_register s.ctx.regs I q _) hrec hop
  rwa [← hwidth, truncTo_readReg] at h

/-- Settles O24: the direction bit selects which of the two registers of one width is the destination. -/
theorem movRegisterForms : Obligations.MovRegisterForms := by
  intro d w reg q s hreg hq
  have hwidth : reg.isByte = q.isByte := (isByte_of_wfReg hreg).trans (isByte_of_wfReg hq).symm
  cases d with
  | false => exact exec_copies_register (p := 0) s rfl rfl rfl rfl hwidth
  | true => exact exec_copies_register (p := 0) s rfl rfl rfl rfl hwidth.symm

/-- Settles O25: the immediate is read at the register's width, and written as it was read. -/
theorem movImmediateToRegister : Obligations.MovImmediateToRegister := by
  intro w reg imm s hreg
  obtain ⟨t, ht, hvalue, hkept, hF, hframe⟩ :=
    exec_copies (i := .movImmReg w reg imm) (p := 0) (s := s) rfl rfl (readLoc_immediate ..) rfl rfl
  refine ⟨t, ht, ?_, hkept, hF, ?_⟩
  · rw [hvalue, truncTo_truncTo, isByte_of_wfReg hreg, Bool.not_not, truncTo, setWidth_eq_lowByte]
  · cases w <;> exact hframe

/-- Settles O26: a segment register is 16 bits wide, as the general register is. -/
theorem movSegmentRegisterForms : Obligations.MovSegmentRegisterForms := by
  intro sr q s hq
  have hwidth : q.isByte = sr.name.isByte := (isByte_of_wfReg hq).trans (isByte_segReg_name sr).symm
  exact ⟨exec_copies_register (p := 0) s rfl rfl rfl rfl hwidth,
    exec_copies_register (p := 0) s rfl rfl rfl rfl hwidth.symm⟩

/-! ## Types that are not simulated -/

/-- An instruction of a type outside the supported set stops, whatever its operands (42_execution_unit.md R200). -/
theorem exec_of_unsupported {i : Instr} (t : InstrType) (hi : i.type = some t) (ht : t.execOp = none) (s : State) :
    exec i s = .refused (.simulationFailure (.NotImplemented t.mnemonic t.tag)) := by
  have hrec : i.record 0 = some ⟨t, i.size, i.wideFlag, (i.operands 0).1, (i.operands 0).2⟩ :=
    record_eq_some.mpr ⟨t, hi, rfl⟩
  rw [exec_eq_simulateInstruction hrec, simulateInstruction_of_unsupported ht]

/-- Settles O36: none of the 23 types is in the supported set. -/
theorem dataTransferTypesNotSimulated : Obligations.DataTransferTypesNotSimulated :=
  fun st => ⟨
    fun _ _ _ => exec_of_unsupported .MOV_IMM_RM rfl rfl st,
    fun _ _ => exec_of_unsupported .MOV_MEM_ACC rfl rfl st,
    fun _ _ => exec_of_unsupported .MOV_ACC_MEM rfl rfl st,
    fun _ => exec_of_unsupported .PUSH_RM rfl rfl st,
    fun _ => exec_of_unsupported .PUSH_REG rfl rfl st,
    fun _ => exec_of_unsupported .PUSH_SR rfl rfl st,
    fun _ => exec_of_unsupported .POP_RM rfl rfl st,
    fun _ => exec_of_unsupported .POP_REG rfl rfl st,
    fun _ => exec_of_unsupported .POP_SR rfl rfl st,
    fun _ _ _ => exec_of_unsupported .XCHG_RM_REG rfl rfl st,
    fun _ => exec_of_unsupported .XCHG_REG_ACC rfl rfl st,
    fun _ _ => exec_of_unsupported .IN_FIXED rfl rfl st,
    fun _ => exec_of_unsupported .IN_VAR rfl rfl st,
    fun _ _ => exec_of_unsupported .OUT_FIXED rfl rfl st,
    fun _ => exec_of_unsupported .OUT_VAR rfl rfl st,
    exec_of_unsupported .XLAT rfl rfl st,
    fun _ _ => exec_of_unsupported .LEA rfl rfl st,
    fun _ _ => exec_of_unsupported .LDS rfl rfl st,
    fun _ _ => exec_of_unsupported .LES rfl rfl st,
    exec_of_unsupported .LAHF rfl rfl st,
    exec_of_unsupported .SAHF rfl rfl st,
    exec_of_unsupported .PUSHF rfl rfl st,
    exec_of_unsupported .POPF rfl rfl st⟩

end Sys2Proof.Machine
end

section
/-! PROOFS. Family 44_arithmetic.md: ADD, SUB and CMP, and the types that are not simulated. -/

namespace Sys2Proof.Machine

/-! ## The result and the flags of ADD and SUB, from the source as held -/

/-- A reduced operand gives the same reduced result: both operations are exact modulo 2^8 (42_execution_unit.md R201). -/
theorem aluResult_truncTo (op : AluOp) (wide : Bool) (a b : Word) :
    aluResult op wide a (truncTo wide b) = truncTo wide (op.apply a b) := by
  cases wide with
  | true => rfl
  | false => cases op <;> (simp only [aluResult, AluOp.apply, truncTo, Bool.false_eq_true, if_false]; bv_omega)

/-- The flags that setZSP starts from: ADD keeps CF, AF and OF, SUB clears all six first (42_execution_unit.md R205). -/
def AluOp.flagsBefore (op : AluOp) (F : Flags) : Flags :=
  match op with
  | .add => F
  | .sub => Flags.none

theorem aluFlags_eq_setZSP (op : AluOp) (basis : Word × Bool) (F : Flags) :
    aluFlags op basis F = setZSP basis.2 basis.1 (op.flagsBefore F) := by
  cases op <;> rfl

/-- The flags that a result gives, as R206 states them: `x` is the result at 16 bits, of the source as held, and only the
basis Truncated reduces it (42_execution_unit.md R206). -/
def resultFlags (basis : ByteResultBasis) (wide : Bool) (x : Word) (F : Flags) : Flags :=
  match wide, basis with
  | true, _ => setZSP true x F
  | false, .Truncated => setZSP false ((x.extractLsb' 0 8).setWidth 16) F
  | false, .Wide16 => setZSP true x F

/-- The reduction to the operation width, as the statements write it (00_scope.md R10). -/
theorem truncTo_eq_ite (wide : Bool) (v : Word) :
    truncTo wide v = if wide then v else (v.extractLsb' 0 8).setWidth 16 := by
  rw [truncTo, setWidth_eq_lowByte]

section
variable (op : AluOp) (wide : Bool) (regs : RegFile) (a : Word) (src : DataLocation)

/-- The result of a source read at the operation width is the reduced result of the source as held. -/
theorem aluResult_sourceValue :
    aluResult op wide a (sourceValue regs wide src) = truncTo wide (op.apply a (sourceValue regs true src)) := by
  cases src with
  | Register r => rfl
  | Immediate v _ _ => exact aluResult_truncTo op wide a v
  | Memory _ _ _ => rfl
  | JumpLabel _ => rfl

/-- The flags of ADD and SUB come from the result of the source as held, under either basis. -/
theorem aluFlags_sourceValue (basis : ByteResultBasis) (F : Flags) :
    aluFlags op (flagBasis basis op wide a (sourceValue regs wide src) src) F =
      resultFlags basis wide (op.apply a (sourceValue regs true src)) (op.flagsBefore F) := by
  rw [aluFlags_eq_setZSP]
  cases wide with
  | true => rw [flagBasis_wide]; rfl
  | false =>
    cases basis with
    | Truncated => rw [flagBasis, aluResult_sourceValue, truncTo_eq_ite]; rfl
    | Wide16 => cases src <;> rfl

end

/-! ## Instructions with a register destination -/

section
variable {I : Record} {r : RegName} {src : DataLocation} {s : State} {i : Instr} {p : Nat} {w : Bool}
  (hrec : i.record p = some I) (hw : wfReg w r = true) (hdst : I.dst = some (.Register r)) (hsrc : I.src = some src)
  (hread : readLoc s.ctx.regs I src w = .next (sourceValue s.ctx.regs w src))
include hrec hw hdst hsrc hread

/-- An instruction whose record is an ADD or SUB into a register completes: the register reads the reduced result, and
nothing else changes but the flags and ip (44_arithmetic.md R300, R301, R310, R311). -/
theorem exec_alu (op : AluOp) (hop : I.type.execOp = some (.alu op)) :
    let x := op.apply (readReg s.ctx.regs r) (sourceValue s.ctx.regs true src)
    ∃ t, exec i s = .next t ∧ readReg t.ctx.regs r = (if w then x else (x.extractLsb' 0 8).setWidth 16) ∧
      RegistersKeptBut r s t ∧
      t.ctx.F = resultFlags s.params.byteResultBasis w x (op.flagsBefore s.ctx.F) ∧ Frame i.size s t := by
  intro x
  obtain rfl : (!r.isByte) = w := by rw [isByte_of_wfReg hw, Bool.not_not]
  have hexec : exec i s = .next (((s.withRegs (writeReg s.ctx.regs r x)).withFlags
      (resultFlags s.params.byteResultBasis (!r.isByte) x (op.flagsBefore s.ctx.F))).advance I.size) := by
    rw [exec_eq_simulateInstruction hrec, simulateInstruction_of_execOp hop, ExecOp.run]
    simp [simAlu, noMemory, hasMemory_of_read hdst hsrc hread, operandsOf, hdst, hsrc, hread, aluResult_sourceValue,
      aluFlags_sourceValue, x]
  exact ⟨_, hexec, (readReg_writeReg_same _ _ _).trans (truncTo_eq_ite _ x),
    fun q hq => readReg_writeReg_other _ _ _ _ hq, rfl, exec_frame hexec⟩

/-- An instruction whose record is a CMP with a register completes: the flags are cleared, and nothing else changes but
ip (44_arithmetic.md R319, R320). -/
theorem exec_compare (hop : I.type.execOp = some .compare) :
    ∃ t, exec i s = .next t ∧ t.ctx.F = Flags.none ∧ RegistersKept s t ∧ t.ctx.regs = s.ctx.regs ∧
      Frame i.size s t := by
  obtain rfl : (!r.isByte) = w := by rw [isByte_of_wfReg hw, Bool.not_not]
  have hexec : exec i s = .next ((s.withFlags Flags.none).advance I.size) := by
    rw [exec_eq_simulateInstruction hrec, simulateInstruction_of_execOp hop, ExecOp.run]
    simp [simCmp, noMemory, hasMemory_of_read hdst hsrc hread, operandsOf, hdst, hsrc, hread]
  exact ⟨_, hexec, rfl, fun _ => rfl, rfl, exec_frame hexec⟩

end

/-! ## The register and immediate forms -/

/-- The size of an immediate form on a register: two bytes and the immediate's (30_encoding.md R75). -/
theorem size_of_register_immediate (e w : Bool) : 2 + 0 + immBytes (w && !e) = if w && !e then 4 else 3 := by
  cases w && !e <;> rfl

/-- Settles O27: the direction bit selects which of the two registers of one width is the destination. -/
theorem addRegisterForms : Obligations.AddRegisterForms := by
  intro d w reg q s hreg hq
  cases d with
  | false => exact exec_alu (p := 0) (src := .Register reg) rfl hq rfl rfl rfl .add rfl
  | true => exact exec_alu (p := 0) (src := .Register q) rfl hreg rfl rfl rfl .add rfl

/-- Settles O28: as for ADD, with the flags computed over cleared ones. -/
theorem subRegisterForms : Obligations.SubRegisterForms := by
  intro d w reg q s hreg hq
  cases d with
  | false => exact exec_alu (p := 0) (src := .Register reg) rfl hq rfl rfl rfl .sub rfl
  | true => exact exec_alu (p := 0) (src := .Register q) rfl hreg rfl rfl rfl .sub rfl

/-- Settles O29: the source as held is the immediate, which an 8-bit ADD reduces without changing its result. -/
theorem addImmediateForms : Obligations.AddImmediateForms := by
  intro e w q imm s hq
  rw [← size_of_register_immediate e w]
  exact exec_alu (i := .addImmRm e w (.reg q) imm) (p := 0) rfl hq rfl rfl rfl .add rfl

/-- Settles O30: as for ADD_IMM_RM, with the flags computed over cleared ones. -/
theorem subImmediateForms : Obligations.SubImmediateForms := by
  intro e w q imm s hq
  rw [← size_of_register_immediate e w]
  exact exec_alu (i := .subImmRm e w (.reg q) imm) (p := 0) rfl hq rfl rfl rfl .sub rfl

/-- Settles O31: both operands can be read, and none of their values is used. -/
theorem compareForms : Obligations.CompareForms := by
  intro d e w reg q imm s hreg hq
  constructor
  · cases d with
    | false => exact exec_compare (p := 0) rfl hq rfl rfl rfl rfl
    | true => exact exec_compare (p := 0) rfl hreg rfl rfl rfl rfl
  · rw [← size_of_register_immediate e w]
    exact exec_compare (i := .cmpImmRm e w (.reg q) imm) (p := 0) rfl hq rfl rfl rfl rfl

/-! ## Types that are not simulated -/

/-- Settles O37: none of the 26 types is in the supported set. -/
theorem arithmeticTypesNotSimulated : Obligations.ArithmeticTypesNotSimulated :=
  fun st => ⟨
    fun _ _ => exec_of_unsupported .ADD_IMM_ACC rfl rfl st,
    fun _ _ _ _ => exec_of_unsupported .ADC_RM_REG rfl rfl st,
    fun _ _ _ _ => exec_of_unsupported .ADC_IMM_RM rfl rfl st,
    fun _ _ => exec_of_unsupported .ADC_IMM_ACC rfl rfl st,
    fun _ _ => exec_of_unsupported .INC_RM rfl rfl st,
    fun _ => exec_of_unsupported .INC_REG rfl rfl st,
    exec_of_unsupported .AAA rfl rfl st,
    exec_of_unsupported .DAA rfl rfl st,
    fun _ _ => exec_of_unsupported .SUB_IMM_ACC rfl rfl st,
    fun _ _ _ _ => exec_of_unsupported .SBB_RM_REG rfl rfl st,
    fun _ _ _ _ => exec_of_unsupported .SBB_IMM_RM rfl rfl st,
    fun _ _ => exec_of_unsupported .SBB_IMM_ACC rfl rfl st,
    fun _ _ => exec_of_unsupported .DEC_RM rfl rfl st,
    fun _ => exec_of_unsupported .DEC_REG rfl rfl st,
    fun _ _ => exec_of_unsupported .NEG rfl rfl st,
    fun _ _ => exec_of_unsupported .CMP_IMM_ACC rfl rfl st,
    exec_of_unsupported .AAS rfl rfl st,
    exec_of_unsupported .DAS rfl rfl st,
    fun _ _ => exec_of_unsupported .MUL rfl rfl st,
    fun _ _ => exec_of_unsupported .IMUL rfl rfl st,
    exec_of_unsupported .AAM rfl rfl st,
    fun _ _ => exec_of_unsupported .DIV rfl rfl st,
    fun _ _ => exec_of_unsupported .IDIV rfl rfl st,
    exec_of_unsupported .AAD rfl rfl st,
    exec_of_unsupported .CBW rfl rfl st,
    exec_of_unsupported .CWD rfl rfl st⟩

end Sys2Proof.Machine
end

section
/-! PROOFS. Family 45_logic.md: every type of the family is outside the supported set. -/

namespace Sys2Proof.Machine

/-- Settles O38: none of the 20 types is in the supported set. -/
theorem logicTypesNotSimulated : Obligations.LogicTypesNotSimulated :=
  fun st => ⟨
    fun _ _ => exec_of_unsupported .NOT rfl rfl st,
    fun _ _ _ => exec_of_unsupported .SHL rfl rfl st,
    fun _ _ _ => exec_of_unsupported .SHR rfl rfl st,
    fun _ _ _ => exec_of_unsupported .SAR rfl rfl st,
    fun _ _ _ => exec_of_unsupported .ROL rfl rfl st,
    fun _ _ _ => exec_of_unsupported .ROR rfl rfl st,
    fun _ _ _ => exec_of_unsupported .RCL rfl rfl st,
    fun _ _ _ => exec_of_unsupported .RCR rfl rfl st,
    fun _ _ _ _ => exec_of_unsupported .AND_RM_REG rfl rfl st,
    fun _ _ _ _ => exec_of_unsupported .AND_IMM_RM rfl rfl st,
    fun _ _ => exec_of_unsupported .AND_IMM_ACC rfl rfl st,
    fun _ _ _ => exec_of_unsupported .TEST_RM_REG rfl rfl st,
    fun _ _ _ => exec_of_unsupported .TEST_IMM_RM rfl rfl st,
    fun _ _ => exec_of_unsupported .TEST_IMM_ACC rfl rfl st,
    fun _ _ _ _ => exec_of_unsupported .OR_RM_REG rfl rfl st,
    fun _ _ _ _ => exec_of_unsupported .OR_IMM_RM rfl rfl st,
    fun _ _ => exec_of_unsupported .OR_IMM_ACC rfl rfl st,
    fun _ _ _ _ => exec_of_unsupported .XOR_RM_REG rfl rfl st,
    fun _ _ _ _ => exec_of_unsupported .XOR_IMM_RM rfl rfl st,
    fun _ _ => exec_of_unsupported .XOR_IMM_ACC rfl rfl st⟩

end Sys2Proof.Machine
end

section
/-! PROOFS. Family 46_string.md: every type of the family is outside the supported set. -/

namespace Sys2Proof.Machine

/-- Settles O39: none of the 7 types is in the supported set, the two repeat prefixes included. -/
theorem stringTypesNotSimulated : Obligations.StringTypesNotSimulated :=
  fun st => ⟨
    exec_of_unsupported .REP rfl rfl st,
    exec_of_unsupported .REPNE rfl rfl st,
    fun _ => exec_of_unsupported .MOVS rfl rfl st,
    fun _ => exec_of_unsupported .CMPS rfl rfl st,
    fun _ => exec_of_unsupported .SCAS rfl rfl st,
    fun _ => exec_of_unsupported .LODS rfl rfl st,
    fun _ => exec_of_unsupported .STOS rfl rfl st⟩

end Sys2Proof.Machine
end

section
/-! PROOFS. Family 47_control_transfer.md: every type of the family is outside the supported set. -/

namespace Sys2Proof.Machine

/-- Settles O40: none of the 32 types is in the supported set; JNLE and JNBE carry the mnemonics jg and ja
(47_control_transfer.md R449, R451). -/
theorem controlTransferTypesNotSimulated : Obligations.ControlTransferTypesNotSimulated :=
  fun st => ⟨
    fun _ => exec_of_unsupported .CALL_IND rfl rfl st,
    fun _ => exec_of_unsupported .CALL_FAR_IND rfl rfl st,
    fun _ => exec_of_unsupported .JMP_IND rfl rfl st,
    fun _ => exec_of_unsupported .JMP_FAR_IND rfl rfl st,
    exec_of_unsupported .RET rfl rfl st,
    fun _ => exec_of_unsupported .RET_IMM rfl rfl st,
    exec_of_unsupported .RETF rfl rfl st,
    fun _ => exec_of_unsupported .RETF_IMM rfl rfl st,
    fun _ => exec_of_unsupported .JE rfl rfl st,
    fun _ => exec_of_unsupported .JL rfl rfl st,
    fun _ => exec_of_unsupported .JLE rfl rfl st,
    fun _ => exec_of_unsupported .JB rfl rfl st,
    fun _ => exec_of_unsupported .JBE rfl rfl st,
    fun _ => exec_of_unsupported .JP rfl rfl st,
    fun _ => exec_of_unsupported .JO rfl rfl st,
    fun _ => exec_of_unsupported .JS rfl rfl st,
    fun _ => exec_of_unsupported .JNE rfl rfl st,
    fun _ => exec_of_unsupported .JNL rfl rfl st,
    fun _ => exec_of_unsupported .JNLE rfl rfl st,
    fun _ => exec_of_unsupported .JNB rfl rfl st,
    fun _ => exec_of_unsupported .JNBE rfl rfl st,
    fun _ => exec_of_unsupported .JNP rfl rfl st,
    fun _ => exec_of_unsupported .JNO rfl rfl st,
    fun _ => exec_of_unsupported .JNS rfl rfl st,
    fun _ => exec_of_unsupported .LOOP rfl rfl st,
    fun _ => exec_of_unsupported .LOOPZ rfl rfl st,
    fun _ => exec_of_unsupported .LOOPNZ rfl rfl st,
    fun _ => exec_of_unsupported .JCXZ rfl rfl st,
    fun _ => exec_of_unsupported .INT rfl rfl st,
    exec_of_unsupported .INT3 rfl rfl st,
    exec_of_unsupported .INTO rfl rfl st,
    exec_of_unsupported .IRET rfl rfl st⟩

end Sys2Proof.Machine
end

section
/-! PROOFS. Family 48_processor_control.md: every type of the family is outside the supported set. -/

namespace Sys2Proof.Machine

/-- Settles O41: none of the 10 types is in the supported set. -/
theorem processorControlTypesNotSimulated : Obligations.ProcessorControlTypesNotSimulated :=
  fun st => ⟨
    exec_of_unsupported .CLC rfl rfl st,
    exec_of_unsupported .CMC rfl rfl st,
    exec_of_unsupported .STC rfl rfl st,
    exec_of_unsupported .CLD rfl rfl st,
    exec_of_unsupported .STD rfl rfl st,
    exec_of_unsupported .CLI rfl rfl st,
    exec_of_unsupported .STI rfl rfl st,
    exec_of_unsupported .HLT rfl rfl st,
    exec_of_unsupported .WAIT rfl rfl st,
    exec_of_unsupported .LOCK rfl rfl st⟩

end Sys2Proof.Machine
end

section
/-! PROOFS. Family 70_reset_and_hazards.md: the reset state, the end of a decode pass, and the end of a run. -/

namespace Sys2Proof.Machine

/-! ## Reset -/

/-- Settles O14: the reset values, which the host's Decode call gives the decoder again. -/
theorem resetIsAllZero : Obligations.ResetIsAllZero :=
  ⟨by decide, readReg_reset, rfl, rfl, reset_memory_zero, rfl, fun _ => rfl⟩

theorem passInv_reset (stream : List Byte) : PassInv stream Decoder.reset 0 where
  toFaithful := Decoder.faithful_reset stream
  inside := Nat.zero_le _
  ended := nofun
  position := le_rfl

/-- Settles O55: the memory lists no cell, no flag is set, and the pass has not begun. -/
theorem resetMeetsTheInvariant : Obligations.ResetMeetsTheInvariant :=
  State.inv_iff.mpr ⟨reset_memory_wf _, ⟨rfl, rfl, rfl⟩, passInv_reset _⟩

/-! ## The end of a pass -/

/-- An instruction has a byte at least (30_encoding.md R94). -/
theorem size_pos (i : Instr) : 0 < i.size := by
  unfold Instr.size
  split <;> omega

/-- The record that a running pass decodes ends inside the stream, past the cursor. -/
theorem Decoder.Decodes.size_bounds {stream : List Byte} {d : Decoder} {I : Record} (h : d.Decodes stream I) :
    0 < I.size ∧ d.cursor + I.size ≤ stream.length := by
  obtain ⟨-, i, rest, hd, hI⟩ := h
  rw [record_size hI]
  exact ⟨size_pos i, size_le_of_decode hd⟩

/-- Each turn after which the pass still runs has consumed a byte (40_decoder.md R120). -/
theorem Decoder.cursor_add_le_of_turns_running {stream : List Byte} (n : Nat) {d : Decoder}
    (hs : d.status = .Running) (hin : d.cursor ≤ stream.length)
    (h : (Decoder.turns stream n d).status = .Running) : d.cursor + n ≤ stream.length := by
  induction n generalizing d with
  | zero => exact hin
  | succ n ih =>
    rw [Decoder.turns] at h
    obtain ⟨I, hI, ht⟩ | ⟨-, ht⟩ | ⟨reason, b1, b2, -, ht⟩ := Decoder.turn_cases stream hs
    · obtain ⟨hpos, hle⟩ := hI.size_bounds
      rw [ht] at h
      have hrest := ih (d := d.emit I) hs hle h
      rw [Decoder.emit_cursor] at hrest
      omega
    all_goals
      rw [Decoder.turns_of_over (by rw [ht]; exact nofun), ht] at h
      cases h

/-- The pass ends: one turn more than the stream has bytes cannot each consume one (70_reset_and_hazards.md R557). -/
theorem decodePass_status_ne_running (stream : List Byte) : (decodePass stream).status ≠ .Running := fun h => by
  have hle := Decoder.cursor_add_le_of_turns_running _ (d := Decoder.reset) rfl (Nat.zero_le _) h
  omega

theorem PassInv.emitAll {stream : List Byte} {d : Decoder} {seq : List Record} (hy : d.Yields stream seq) {pos : Nat}
    (h : PassInv stream d pos) : PassInv stream (d.emitAll seq) (pos + seq.length) := by
  induction hy generalizing pos with
  | nil d => exact h
  | @cons d I rest head tail ih =>
    rw [List.length_cons, Nat.add_comm rest.length, ← Nat.add_assoc]
    exact ih (h.emit head)

/-- Before the turn that ends it, the pass has the sizes of all its records behind it, inside the stream. -/
theorem lastDecoder_cursor (stream : List Byte) : (lastDecoder stream).cursor = totalSize (decodePass stream).seq ∧
    totalSize (decodePass stream).seq ≤ stream.length := by
  have h := (passInv_reset stream).emitAll (decodePass_yields stream)
  have hcursor : (lastDecoder stream).cursor = totalSize (lastDecoder stream).seq := h.inv.cursor
  rw [lastDecoder_seq] at hcursor
  exact ⟨hcursor, hcursor ▸ h.inside⟩

theorem lt_length_of_decode_failure {stream : List Byte} {p : Nat} {reason : DecodeReason} {b1 : Byte}
    {b2 : Option Byte} (h : decode (stream.drop p) = .error (.failure reason b1 b2)) : p < stream.length := by
  refine lt_of_not_ge fun hge => ?_
  rw [List.drop_eq_nil_of_le hge] at h
  cases h

/-- The two ends of a pass (70_reset_and_hazards.md R557): the turn after the last record finds no byte left, or bytes
that do not decode. -/
theorem decodePass_ends (stream : List Byte) :
    ((decodePass stream).status = .Done ∧ (decodePass stream).cursor = stream.length ∧
      totalSize (decodePass stream).seq = stream.length) ∨
    ∃ f, (decodePass stream).status = .Failed f ∧ totalSize (decodePass stream).seq = f.offset ∧
      f.offset < stream.length ∧ decode (stream.drop f.offset) = .error (.failure f.reason f.b1 f.b2) := by
  have hover := decodePass_status_ne_running stream
  have hrun := lastDecoder_status stream
  have hlast := turn_lastDecoder hover
  obtain ⟨hcursor, hle⟩ := lastDecoder_cursor stream
  obtain ⟨I, -, ht⟩ | ⟨hd, ht⟩ | ⟨reason, b1, b2, hd, ht⟩ := Decoder.turn_cases stream hrun <;> rw [hlast] at ht
  · rw [ht] at hover
    exact absurd hrun hover
  · have hend := List.drop_eq_nil_iff.mp (decode_eq_endOfStream.mp hd)
    have hlen := le_antisymm hle (hcursor ▸ hend)
    exact .inl ⟨congrArg Decoder.status ht, (congrArg Decoder.cursor ht).trans (hcursor.trans hlen), hlen⟩
  · exact .inr ⟨_, congrArg Decoder.status ht, hcursor.symm, lt_length_of_decode_failure hd, hd⟩

/-- Settles O13: the two ends of a pass, and the empty stream's pass evaluated. -/
theorem passEndsDoneOrFailed : Obligations.PassEndsDoneOrFailed :=
  ⟨decodePass_ends, rfl⟩

/-! ## The end of a run -/

/-- The run of these records stops before the first of them: there is none, or it fails, or it violates the contract
(60_exceptions.md R515, R516). -/
inductive StopsAt (t : State) : List Record → Prop
  | done : StopsAt t []
  | refused {I : Record} {r : Refusal} (h : simulateInstruction I t = .refused r) (rest : List Record) :
      StopsAt t (I :: rest)
  | fault {I : Record} {f : Fault} (h : simulateInstruction I t = .fault f) (rest : List Record) : StopsAt t (I :: rest)

/-- Every run completes the records up to some place, and stops there (70_reset_and_hazards.md R558). -/
theorem exists_stop (seq : List Record) (s : State) :
    ∃ past rest t, seq = past ++ rest ∧ simulate past s = .returned t none ∧ StopsAt t rest := by
  induction seq generalizing s with
  | nil => exact ⟨[], [], s, rfl, rfl, .done⟩
  | cons I tail ih =>
    cases hI : simulateInstruction I s with
    | next u =>
      obtain ⟨past, rest, t, hseq, hpast, hstop⟩ := ih u
      exact ⟨I :: past, rest, t, congrArg (I :: ·) hseq, (simulate_cons_next hI past).trans hpast, hstop⟩
    | fault f => exact ⟨[], I :: tail, s, rfl, rfl, .fault hI tail⟩
    | refused r => exact ⟨[], I :: tail, s, rfl, rfl, .refused hI tail⟩

/-- Where a run completes, its first record does, and so does the run of the others after it. -/
theorem completed_cons {I : Record} {rest : List Record} {s t : State}
    (h : simulate (I :: rest) s = .returned t none) :
    ∃ u, simulateInstruction I s = .next u ∧ simulate rest u = .returned t none := by
  cases hI : simulateInstruction I s with
  | next u => exact ⟨u, rfl, (simulate_cons_next hI rest).symm.trans h⟩
  | fault f => rw [simulate_cons_fault hI] at h; cases h
  | refused r => rw [simulate_cons_refused hI] at h; cases h

theorem simulate_append_of_completed {past : List Record} {s t : State} (h : simulate past s = .returned t none)
    (rest : List Record) : simulate (past ++ rest) s = simulate rest t := by
  rw [simulate_append, h]

/-! ### The states of a run -/

/-- The states that a run of completed records goes through: one before each record and one at the end. -/
structure Trace (seq : List Record) (s t : State) (states : List State) : Prop where
  head : states.head? = some s
  last : states.getLast? = some t
  length : states.length = seq.length + 1
  through : ∀ k a b, states[k]? = some a → states[k + 1]? = some b →
    ∃ I, seq[k]? = some I ∧ simulateInstruction I a = .next b

theorem Trace.nil (s : State) : Trace [] s s [s] :=
  ⟨rfl, rfl, rfl, fun _ _ _ _ hb => by cases hb⟩

theorem Trace.cons {I : Record} {rest : List Record} {s u t : State} {states : List State}
    (hI : simulateInstruction I s = .next u) (h : Trace rest u t states) : Trace (I :: rest) s t (s :: states) where
  head := rfl
  last := by rw [List.getLast?_cons, h.last]; rfl
  length := congrArg (· + 1) h.length
  through
    | 0, a, b, ha, hb => by
      rw [List.getElem?_cons_succ, ← List.head?_eq_getElem?, h.head] at hb
      cases ha
      cases hb
      exact ⟨I, rfl, hI⟩
    | k + 1, a, b, ha, hb => h.through k a b ha hb

theorem exists_trace {seq : List Record} {s t : State} (h : simulate seq s = .returned t none) :
    ∃ states, Trace seq s t states := by
  induction seq generalizing s with
  | nil => cases h; exact ⟨[_], .nil _⟩
  | cons I rest ih =>
    obtain ⟨u, hI, hrest⟩ := completed_cons h
    obtain ⟨states, htrace⟩ := ih hrest
    exact ⟨s :: states, htrace.cons hI⟩

/-- Settles O50: the trace of the records before the stop, and what the stop makes of the run. -/
theorem runStopsAtFirstFailure : Obligations.RunStopsAtFirstFailure := by
  refine ⟨fun seq s => ?_, fun rest s => simulate_cons_refused (simulateInstruction_of_unsupported rfl s) rest⟩
  obtain ⟨past, rest, t, rfl, hpast, hstop⟩ := exists_stop seq s
  obtain ⟨states, htrace⟩ := exists_trace hpast
  have hthrough : ∀ k a b, states[k]? = some a → states[k + 1]? = some b →
      ∃ I, (past ++ rest)[k]? = some I ∧ simulateInstruction I a = .next b := fun k a b ha hb => by
    obtain ⟨I, hI, hnext⟩ := htrace.through k a b ha hb
    exact ⟨I, (List.getElem?_append_left (List.getElem?_eq_some_iff.mp hI).1).trans hI, hnext⟩
  have hplace : ∀ I more, (past ++ I :: more)[states.length - 1]? = some I := fun I more => by
    simp [htrace.length]
  refine ⟨states, t, htrace.head, htrace.last, hthrough, ?_⟩
  rw [simulate_append_of_completed hpast]
  cases hstop with
  | done => exact .inl ⟨by rw [List.append_nil, htrace.length], rfl⟩
  | refused h more => exact .inr ⟨_, hplace _ _, .inl ⟨_, h, simulate_cons_refused h more⟩⟩
  | fault h more => exact .inr ⟨_, hplace _ _, .inr ⟨_, h, simulate_cons_fault h more⟩⟩

/-! ### The final ip -/

/-- Completed records move ip by the sum of their sizes, or not at all (10_state.md R33). -/
theorem simulate_ip {seq : List Record} {s t : State} (h : simulate seq s = .returned t none) :
    t.ctx.ip = if s.params.ipAdvances then s.ctx.ip + BitVec.ofNat 16 (totalSize seq) else s.ctx.ip := by
  induction seq generalizing s with
  | nil => cases h; simp [totalSize]
  | cons I rest ih =>
    obtain ⟨u, hI, hrest⟩ := completed_cons h
    have hf := simulateInstruction_frame hI
    rw [ih hrest, hf.params, hf.ip, ← List.singleton_append, totalSize_append, totalSize_singleton, BitVec.ofNat_add]
    cases s.params.ipAdvances
    · rfl
    · exact BitVec.add_assoc _ _ _

/-- What a run that returned makes of the place where it stopped. -/
theorem StopsAt.of_returned {t u : State} {rest : List Record} {f : Option Refusal} (h : StopsAt t rest)
    (hr : simulate rest t = .returned u f) :
    u = t ∧ (f = none → rest = []) ∧
      ∀ r, f = some r → ∃ I, rest.head? = some I ∧ simulateInstruction I t = .refused r := by
  cases h with
  | done =>
    cases hr
    exact ⟨rfl, fun _ => rfl, fun _ hf => by cases hf⟩
  | refused h more =>
    rw [simulate_cons_refused h] at hr
    cases hr
    refine ⟨rfl, nofun, fun r hf => ?_⟩
    cases hf
    exact ⟨_, rfl, h⟩
  | fault h more => rw [simulate_cons_fault h] at hr; cases hr

/-- A pass that is Done has the sizes of its records add up to the stream's length (70_reset_and_hazards.md R557). -/
theorem totalSize_of_decodeOk {stream : List Byte} (h : DecodeOk stream) :
    totalSize (decodePass stream).seq = stream.length := by
  obtain ⟨-, -, hsize⟩ | ⟨f, hf, -⟩ := decodePass_ends stream
  · exact hsize
  · rw [h] at hf
    cases hf

/-- Settles O51: the records before the stop are the ones that executed, and moved ip. -/
theorem finalInstructionPointer : Obligations.FinalInstructionPointer := by
  refine ⟨fun seq s u f hr => ?_, fun stream s hfresh hp hok hrun => ?_⟩
  · obtain ⟨past, rest, t, rfl, hpast, hstop⟩ := exists_stop seq s
    rw [simulate_append_of_completed hpast] at hr
    obtain ⟨rfl, hnone, hsome⟩ := hstop.of_returned hr
    have hip := simulate_ip hpast
    refine ⟨past.length, by simp, fun hf => by simp [hnone hf], fun r hf => ?_, ?_, fun hp => ?_, fun hp => ?_⟩
    · obtain ⟨I, hI, hrefused⟩ := hsome r hf
      exact ⟨I, by rwa [List.getElem?_append_right le_rfl, Nat.sub_self, ← List.head?_eq_getElem?], hrefused⟩
    · rwa [List.take_left]
    · rw [hip, if_pos hp, List.take_left]
    · simp [hip, hp]
  · obtain ⟨t, ht⟩ := noFailureRecorded_iff.mp hrun
    obtain ⟨-, hip0, -⟩ := hfresh
    refine ⟨t, by rw [ht, RunResult.final_returned], ?_⟩
    rw [simulate_ip ht, if_pos hp, hip0, totalSize_of_decodeOk hok]
    exact BitVec.zero_add _

end Sys2Proof.Machine
end
